-- ==== Sys2Proof/Word.lean ====
section
/-! DEFINITION. The two value widths of the core (spec/10_state.md R21-R25) and how a word is made of two bytes. -/

namespace Sys2Proof

/-- `u8`: an unsigned 8-bit value (R8). -/
abbrev Byte := BitVec 8

/-- `u16`: an unsigned 16-bit value (R8): register pairs, SP, PC and every memory address (R50). -/
abbrev Word := BitVec 16

/-- `v[7:0]` (R7): the low half of a word. -/
def Word.lo (v : Word) : Byte := v.setWidth 8

/-- `v[15:8]` (R7): the high half of a word. -/
def Word.hi (v : Word) : Byte := (v >>> 8).setWidth 8

/-- `h:l` (R7): the word whose high half is `h` and whose low half is `l`. -/
def Word.ofBytes (h l : Byte) : Word := h ++ l

end Sys2Proof
end

