-- ==== Sys2Proof/Syntax/Selectors.lean ====
section
/-! DEFINITION. The operand selectors that an opcode byte's fields name (spec/30_encoding.md R81, R85-R88), and the forms of
the cycle table and of opcode_table.json's "form" column, with their operands. -/

namespace Sys2Proof

/-- Register selector, in the order of its values 0 to 7 (R85). `m` is the byte at HL, not a register. -/
inductive Reg8 where
  | b | c | d | e | h | l | m | a
deriving DecidableEq, Repr

/-- Register-pair selector, in the order of its values 0 to 3 (R86). -/
inductive Pair where
  | bc | de | hl | sp
deriving DecidableEq, Repr

/-- Condition selector, in the order of its values 0 to 7, under the assembler's suffixes (R87). -/
inductive Cond where
  | nz | z | nc | c | po | pe | p | m
deriving DecidableEq, Repr

/-- ALU operation selector, in the order of its values 0 to 7 (R88). -/
inductive AluOp where
  | add | adc | sub | sbb | ana | xra | ora | cmp
deriving DecidableEq, Repr

/-- The form of an instruction: the row of R352's table it belongs to, with the selectors that its opcode byte holds.
An undocumented byte has the form of the instruction it stands for (R98). -/
inductive Form where
  | nop | hlt | ei | di | inPort | outPort
  | mov (dst src : Reg8) | mvi (dst : Reg8) | lxi (p : Pair) | lda | sta | lhld | shld | ldax (p : Pair) | stax (p : Pair)
  | xchg | xthl | sphl | push (p : Pair) | pushPSW | pop (p : Pair) | popPSW
  | inr (r : Reg8) | dcr (r : Reg8) | alu (o : AluOp) (src : Reg8) | aluImm (o : AluOp)
  | dad (p : Pair) | daa | inx (p : Pair) | dcx (p : Pair) | rlc | rrc | ral | rar | cma | stc | cmc
  | jmp | jcc (cc : Cond) | call | ccc (cc : Cond) | ret | rcc (cc : Cond) | rst (n : BitVec 3) | pchl
deriving DecidableEq, Repr

end Sys2Proof
end

