-- ==== Sys2Proof/Syntax.lean ====
section
/-! DEFINITION. The instructions of the core: one constructor for each of the 256 rows of spec/opcode_table.json, with the
operand that follows the opcode byte (spec/30_encoding.md R82: d8 or p8 one byte, d16 or a16 one word). The twelve undocumented
bytes of R98 have constructors of their own, named after the byte (log 18). The constructors stand by format, the three-byte
ones first, each format in the table's order. -/

namespace Sys2Proof

inductive Instr where
  /-- 0x01 LXI B,d16 (R205) -/
  | lxiB (v : Word)
  /-- 0x11 LXI D,d16 (R205) -/
  | lxiD (v : Word)
  /-- 0x21 LXI H,d16 (R205) -/
  | lxiH (v : Word)
  /-- 0x22 SHLD a16 (R209) -/
  | shld (a : Word)
  /-- 0x2A LHLD a16 (R208) -/
  | lhld (a : Word)
  /-- 0x31 LXI SP,d16 (R205) -/
  | lxiSP (v : Word)
  /-- 0x32 STA a16 (R207) -/
  | sta (a : Word)
  /-- 0x3A LDA a16 (R206) -/
  | lda (a : Word)
  /-- 0xC2 JNZ a16 (R241) -/
  | jnz (a : Word)
  /-- 0xC3 JMP a16 (R240) -/
  | jmp (a : Word)
  /-- 0xC4 CNZ a16 (R243) -/
  | cnz (a : Word)
  /-- 0xCA JZ a16 (R241) -/
  | jz (a : Word)
  /-- 0xCB JMP a16 stands for 0xC3 (R240) -/
  | jmpCB (a : Word)
  /-- 0xCC CZ a16 (R243) -/
  | cz (a : Word)
  /-- 0xCD CALL a16 (R242) -/
  | call (a : Word)
  /-- 0xD2 JNC a16 (R241) -/
  | jnc (a : Word)
  /-- 0xD4 CNC a16 (R243) -/
  | cnc (a : Word)
  /-- 0xDA JC a16 (R241) -/
  | jc (a : Word)
  /-- 0xDC CC a16 (R243) -/
  | cc (a : Word)
  /-- 0xDD CALL a16 stands for 0xCD (R242) -/
  | callDD (a : Word)
  /-- 0xE2 JPO a16 (R241) -/
  | jpo (a : Word)
  /-- 0xE4 CPO a16 (R243) -/
  | cpo (a : Word)
  /-- 0xEA JPE a16 (R241) -/
  | jpe (a : Word)
  /-- 0xEC CPE a16 (R243) -/
  | cpe (a : Word)
  /-- 0xED CALL a16 stands for 0xCD (R242) -/
  | callED (a : Word)
  /-- 0xF2 JP a16 (R241) -/
  | jp (a : Word)
  /-- 0xF4 CP a16 (R243) -/
  | cp (a : Word)
  /-- 0xFA JM a16 (R241) -/
  | jm (a : Word)
  /-- 0xFC CM a16 (R243) -/
  | cm (a : Word)
  /-- 0xFD CALL a16 stands for 0xCD (R242) -/
  | callFD (a : Word)
  /-- 0x06 MVI B,d8 (R203) -/
  | mviB (v : Byte)
  /-- 0x0E MVI C,d8 (R203) -/
  | mviC (v : Byte)
  /-- 0x16 MVI D,d8 (R203) -/
  | mviD (v : Byte)
  /-- 0x1E MVI E,d8 (R203) -/
  | mviE (v : Byte)
  /-- 0x26 MVI H,d8 (R203) -/
  | mviH (v : Byte)
  /-- 0x2E MVI L,d8 (R203) -/
  | mviL (v : Byte)
  /-- 0x36 MVI M,d8 (R204) -/
  | mviM (v : Byte)
  /-- 0x3E MVI A,d8 (R203) -/
  | mviA (v : Byte)
  /-- 0xC6 ADI d8 (R146) -/
  | adi (v : Byte)
  /-- 0xCE ACI d8 (R149) -/
  | aci (v : Byte)
  /-- 0xD3 OUT p8 (R275) -/
  | outPort (p : Byte)
  /-- 0xD6 SUI d8 (R152) -/
  | sui (v : Byte)
  /-- 0xDB IN p8 (R274) -/
  | inPort (p : Byte)
  /-- 0xDE SBI d8 (R155) -/
  | sbi (v : Byte)
  /-- 0xE6 ANI d8 (R161) -/
  | ani (v : Byte)
  /-- 0xEE XRI d8 (R164) -/
  | xri (v : Byte)
  /-- 0xF6 ORI d8 (R167) -/
  | ori (v : Byte)
  /-- 0xFE CPI d8 (R158) -/
  | cpi (v : Byte)
  /-- 0x00 NOP (R270) -/
  | nop
  /-- 0x02 STAX B (R211) -/
  | staxB
  /-- 0x03 INX B (R170) -/
  | inxB
  /-- 0x04 INR B (R140) -/
  | inrB
  /-- 0x05 DCR B (R142) -/
  | dcrB
  /-- 0x07 RLC (R172) -/
  | rlc
  /-- 0x08 NOP stands for 0x00 (R270) -/
  | nop08
  /-- 0x09 DAD B (R168) -/
  | dadB
  /-- 0x0A LDAX B (R210) -/
  | ldaxB
  /-- 0x0B DCX B (R171) -/
  | dcxB
  /-- 0x0C INR C (R140) -/
  | inrC
  /-- 0x0D DCR C (R142) -/
  | dcrC
  /-- 0x0F RRC (R173) -/
  | rrc
  /-- 0x10 NOP stands for 0x00 (R270) -/
  | nop10
  /-- 0x12 STAX D (R211) -/
  | staxD
  /-- 0x13 INX D (R170) -/
  | inxD
  /-- 0x14 INR D (R140) -/
  | inrD
  /-- 0x15 DCR D (R142) -/
  | dcrD
  /-- 0x17 RAL (R174) -/
  | ral
  /-- 0x18 NOP stands for 0x00 (R270) -/
  | nop18
  /-- 0x19 DAD D (R168) -/
  | dadD
  /-- 0x1A LDAX D (R210) -/
  | ldaxD
  /-- 0x1B DCX D (R171) -/
  | dcxD
  /-- 0x1C INR E (R140) -/
  | inrE
  /-- 0x1D DCR E (R142) -/
  | dcrE
  /-- 0x1F RAR (R175) -/
  | rar
  /-- 0x20 NOP stands for 0x00 (R270) -/
  | nop20
  /-- 0x23 INX H (R170) -/
  | inxH
  /-- 0x24 INR H (R140) -/
  | inrH
  /-- 0x25 DCR H (R142) -/
  | dcrH
  /-- 0x27 DAA (R169) -/
  | daa
  /-- 0x28 NOP stands for 0x00 (R270) -/
  | nop28
  /-- 0x29 DAD H (R168) -/
  | dadH
  /-- 0x2B DCX H (R171) -/
  | dcxH
  /-- 0x2C INR L (R140) -/
  | inrL
  /-- 0x2D DCR L (R142) -/
  | dcrL
  /-- 0x2F CMA (R176) -/
  | cma
  /-- 0x30 NOP stands for 0x00 (R270) -/
  | nop30
  /-- 0x33 INX SP (R170) -/
  | inxSP
  /-- 0x34 INR M (R141) -/
  | inrM
  /-- 0x35 DCR M (R143) -/
  | dcrM
  /-- 0x37 STC (R177) -/
  | stc
  /-- 0x38 NOP stands for 0x00 (R270) -/
  | nop38
  /-- 0x39 DAD SP (R168) -/
  | dadSP
  /-- 0x3B DCX SP (R171) -/
  | dcxSP
  /-- 0x3C INR A (R140) -/
  | inrA
  /-- 0x3D DCR A (R142) -/
  | dcrA
  /-- 0x3F CMC (R178) -/
  | cmc
  /-- 0x40 MOV B,B (R200) -/
  | movBB
  /-- 0x41 MOV B,C (R200) -/
  | movBC
  /-- 0x42 MOV B,D (R200) -/
  | movBD
  /-- 0x43 MOV B,E (R200) -/
  | movBE
  /-- 0x44 MOV B,H (R200) -/
  | movBH
  /-- 0x45 MOV B,L (R200) -/
  | movBL
  /-- 0x46 MOV B,M (R201) -/
  | movBM
  /-- 0x47 MOV B,A (R200) -/
  | movBA
  /-- 0x48 MOV C,B (R200) -/
  | movCB
  /-- 0x49 MOV C,C (R200) -/
  | movCC
  /-- 0x4A MOV C,D (R200) -/
  | movCD
  /-- 0x4B MOV C,E (R200) -/
  | movCE
  /-- 0x4C MOV C,H (R200) -/
  | movCH
  /-- 0x4D MOV C,L (R200) -/
  | movCL
  /-- 0x4E MOV C,M (R201) -/
  | movCM
  /-- 0x4F MOV C,A (R200) -/
  | movCA
  /-- 0x50 MOV D,B (R200) -/
  | movDB
  /-- 0x51 MOV D,C (R200) -/
  | movDC
  /-- 0x52 MOV D,D (R200) -/
  | movDD
  /-- 0x53 MOV D,E (R200) -/
  | movDE
  /-- 0x54 MOV D,H (R200) -/
  | movDH
  /-- 0x55 MOV D,L (R200) -/
  | movDL
  /-- 0x56 MOV D,M (R201) -/
  | movDM
  /-- 0x57 MOV D,A (R200) -/
  | movDA
  /-- 0x58 MOV E,B (R200) -/
  | movEB
  /-- 0x59 MOV E,C (R200) -/
  | movEC
  /-- 0x5A MOV E,D (R200) -/
  | movED
  /-- 0x5B MOV E,E (R200) -/
  | movEE
  /-- 0x5C MOV E,H (R200) -/
  | movEH
  /-- 0x5D MOV E,L (R200) -/
  | movEL
  /-- 0x5E MOV E,M (R201) -/
  | movEM
  /-- 0x5F MOV E,A (R200) -/
  | movEA
  /-- 0x60 MOV H,B (R200) -/
  | movHB
  /-- 0x61 MOV H,C (R200) -/
  | movHC
  /-- 0x62 MOV H,D (R200) -/
  | movHD
  /-- 0x63 MOV H,E (R200) -/
  | movHE
  /-- 0x64 MOV H,H (R200) -/
  | movHH
  /-- 0x65 MOV H,L (R200) -/
  | movHL
  /-- 0x66 MOV H,M (R201) -/
  | movHM
  /-- 0x67 MOV H,A (R200) -/
  | movHA
  /-- 0x68 MOV L,B (R200) -/
  | movLB
  /-- 0x69 MOV L,C (R200) -/
  | movLC
  /-- 0x6A MOV L,D (R200) -/
  | movLD
  /-- 0x6B MOV L,E (R200) -/
  | movLE
  /-- 0x6C MOV L,H (R200) -/
  | movLH
  /-- 0x6D MOV L,L (R200) -/
  | movLL
  /-- 0x6E MOV L,M (R201) -/
  | movLM
  /-- 0x6F MOV L,A (R200) -/
  | movLA
  /-- 0x70 MOV M,B (R202) -/
  | movMB
  /-- 0x71 MOV M,C (R202) -/
  | movMC
  /-- 0x72 MOV M,D (R202) -/
  | movMD
  /-- 0x73 MOV M,E (R202) -/
  | movME
  /-- 0x74 MOV M,H (R202) -/
  | movMH
  /-- 0x75 MOV M,L (R202) -/
  | movML
  /-- 0x76 HLT (R271) -/
  | hlt
  /-- 0x77 MOV M,A (R202) -/
  | movMA
  /-- 0x78 MOV A,B (R200) -/
  | movAB
  /-- 0x79 MOV A,C (R200) -/
  | movAC
  /-- 0x7A MOV A,D (R200) -/
  | movAD
  /-- 0x7B MOV A,E (R200) -/
  | movAE
  /-- 0x7C MOV A,H (R200) -/
  | movAH
  /-- 0x7D MOV A,L (R200) -/
  | movAL
  /-- 0x7E MOV A,M (R201) -/
  | movAM
  /-- 0x7F MOV A,A (R200) -/
  | movAA
  /-- 0x80 ADD B (R144) -/
  | addB
  /-- 0x81 ADD C (R144) -/
  | addC
  /-- 0x82 ADD D (R144) -/
  | addD
  /-- 0x83 ADD E (R144) -/
  | addE
  /-- 0x84 ADD H (R144) -/
  | addH
  /-- 0x85 ADD L (R144) -/
  | addL
  /-- 0x86 ADD M (R145) -/
  | addM
  /-- 0x87 ADD A (R144) -/
  | addA
  /-- 0x88 ADC B (R147) -/
  | adcB
  /-- 0x89 ADC C (R147) -/
  | adcC
  /-- 0x8A ADC D (R147) -/
  | adcD
  /-- 0x8B ADC E (R147) -/
  | adcE
  /-- 0x8C ADC H (R147) -/
  | adcH
  /-- 0x8D ADC L (R147) -/
  | adcL
  /-- 0x8E ADC M (R148) -/
  | adcM
  /-- 0x8F ADC A (R147) -/
  | adcA
  /-- 0x90 SUB B (R150) -/
  | subB
  /-- 0x91 SUB C (R150) -/
  | subC
  /-- 0x92 SUB D (R150) -/
  | subD
  /-- 0x93 SUB E (R150) -/
  | subE
  /-- 0x94 SUB H (R150) -/
  | subH
  /-- 0x95 SUB L (R150) -/
  | subL
  /-- 0x96 SUB M (R151) -/
  | subM
  /-- 0x97 SUB A (R150) -/
  | subA
  /-- 0x98 SBB B (R153) -/
  | sbbB
  /-- 0x99 SBB C (R153) -/
  | sbbC
  /-- 0x9A SBB D (R153) -/
  | sbbD
  /-- 0x9B SBB E (R153) -/
  | sbbE
  /-- 0x9C SBB H (R153) -/
  | sbbH
  /-- 0x9D SBB L (R153) -/
  | sbbL
  /-- 0x9E SBB M (R154) -/
  | sbbM
  /-- 0x9F SBB A (R153) -/
  | sbbA
  /-- 0xA0 ANA B (R159) -/
  | anaB
  /-- 0xA1 ANA C (R159) -/
  | anaC
  /-- 0xA2 ANA D (R159) -/
  | anaD
  /-- 0xA3 ANA E (R159) -/
  | anaE
  /-- 0xA4 ANA H (R159) -/
  | anaH
  /-- 0xA5 ANA L (R159) -/
  | anaL
  /-- 0xA6 ANA M (R160) -/
  | anaM
  /-- 0xA7 ANA A (R159) -/
  | anaA
  /-- 0xA8 XRA B (R162) -/
  | xraB
  /-- 0xA9 XRA C (R162) -/
  | xraC
  /-- 0xAA XRA D (R162) -/
  | xraD
  /-- 0xAB XRA E (R162) -/
  | xraE
  /-- 0xAC XRA H (R162) -/
  | xraH
  /-- 0xAD XRA L (R162) -/
  | xraL
  /-- 0xAE XRA M (R163) -/
  | xraM
  /-- 0xAF XRA A (R162) -/
  | xraA
  /-- 0xB0 ORA B (R165) -/
  | oraB
  /-- 0xB1 ORA C (R165) -/
  | oraC
  /-- 0xB2 ORA D (R165) -/
  | oraD
  /-- 0xB3 ORA E (R165) -/
  | oraE
  /-- 0xB4 ORA H (R165) -/
  | oraH
  /-- 0xB5 ORA L (R165) -/
  | oraL
  /-- 0xB6 ORA M (R166) -/
  | oraM
  /-- 0xB7 ORA A (R165) -/
  | oraA
  /-- 0xB8 CMP B (R156) -/
  | cmpB
  /-- 0xB9 CMP C (R156) -/
  | cmpC
  /-- 0xBA CMP D (R156) -/
  | cmpD
  /-- 0xBB CMP E (R156) -/
  | cmpE
  /-- 0xBC CMP H (R156) -/
  | cmpH
  /-- 0xBD CMP L (R156) -/
  | cmpL
  /-- 0xBE CMP M (R157) -/
  | cmpM
  /-- 0xBF CMP A (R156) -/
  | cmpA
  /-- 0xC0 RNZ (R245) -/
  | rnz
  /-- 0xC1 POP B (R217) -/
  | popB
  /-- 0xC5 PUSH B (R215) -/
  | pushB
  /-- 0xC7 RST 0 (R246) -/
  | rst0
  /-- 0xC8 RZ (R245) -/
  | rz
  /-- 0xC9 RET (R244) -/
  | ret
  /-- 0xCF RST 1 (R246) -/
  | rst1
  /-- 0xD0 RNC (R245) -/
  | rnc
  /-- 0xD1 POP D (R217) -/
  | popD
  /-- 0xD5 PUSH D (R215) -/
  | pushD
  /-- 0xD7 RST 2 (R246) -/
  | rst2
  /-- 0xD8 RC (R245) -/
  | rc
  /-- 0xD9 RET stands for 0xC9 (R244) -/
  | retD9
  /-- 0xDF RST 3 (R246) -/
  | rst3
  /-- 0xE0 RPO (R245) -/
  | rpo
  /-- 0xE1 POP H (R217) -/
  | popH
  /-- 0xE3 XTHL (R213) -/
  | xthl
  /-- 0xE5 PUSH H (R215) -/
  | pushH
  /-- 0xE7 RST 4 (R246) -/
  | rst4
  /-- 0xE8 RPE (R245) -/
  | rpe
  /-- 0xE9 PCHL (R247) -/
  | pchl
  /-- 0xEB XCHG (R212) -/
  | xchg
  /-- 0xEF RST 5 (R246) -/
  | rst5
  /-- 0xF0 RP (R245) -/
  | rp
  /-- 0xF1 POP PSW (R218) -/
  | popPSW
  /-- 0xF3 DI (R273) -/
  | di
  /-- 0xF5 PUSH PSW (R216) -/
  | pushPSW
  /-- 0xF7 RST 6 (R246) -/
  | rst6
  /-- 0xF8 RM (R245) -/
  | rm
  /-- 0xF9 SPHL (R214) -/
  | sphl
  /-- 0xFB EI (R272) -/
  | ei
  /-- 0xFF RST 7 (R246) -/
  | rst7
deriving DecidableEq, Repr

end Sys2Proof
end

