-- ==== Sys2Proof/WellFormed.lean ====
section
/-! DEFINITION. When a byte string is one whole instruction. Every TERM of Instr is well-formed: its constructors are the rows
of the opcode table and its operand types are exactly the operands' widths (spec/30_encoding.md R82, R96, R99: no encoding is
reserved or illegal). What can be ill-formed is a byte string: empty, cut short, or with bytes left over. -/

namespace Sys2Proof

/-- The F2 opcodes (R82): one operand byte follows. -/
def twoByteOpcodes : List Byte :=
  [0x06, 0x0E, 0x16, 0x1E, 0x26, 0x2E, 0x36, 0x3E, 0xC6, 0xCE, 0xD3, 0xD6,
   0xDB, 0xDE, 0xE6, 0xEE, 0xF6, 0xFE]

/-- The F3 opcodes (R82): one operand word follows, low byte first. -/
def threeByteOpcodes : List Byte :=
  [0x01, 0x11, 0x21, 0x22, 0x2A, 0x31, 0x32, 0x3A, 0xC2, 0xC3, 0xC4, 0xCA,
   0xCB, 0xCC, 0xCD, 0xD2, 0xD4, 0xDA, 0xDC, 0xDD, 0xE2, 0xE4, 0xEA, 0xEC,
   0xED, 0xF2, 0xF4, 0xFA, 0xFC, 0xFD]

/-- The length that the opcode byte alone decides (R80): every other opcode is F1. -/
def opcodeLength (op : Byte) : Nat :=
  if threeByteOpcodes.contains op then 3 else if twoByteOpcodes.contains op then 2 else 1

/-- A byte string that is exactly one instruction. -/
def wellFormedBytes : List Byte → Bool
  | [] => false
  | op :: operand => operand.length + 1 == opcodeLength op

end Sys2Proof
end

