-- ==== Sys2Proof/Decode.lean ====
section
/-! DEFINITION. The decoder, from spec/30_encoding.md: the opcode byte's fields (R81), the operand selectors (R85-R89), the four
dispatch stages in their order (R91-R95) and the operand bytes (R83, R84); then the encoder, written row by row from the opcode
map (R97); then each instruction's form. -/

namespace Sys2Proof

/-! ## Fields and selectors -/

/-- `ddd`, `ooo`, `ccc` and `nnn`: op[5:3] (R81). -/
def field53 (op : Byte) : BitVec 3 := op.extractLsb' 3 3

/-- `sss`: op[2:0] (R81). -/
def field20 (op : Byte) : BitVec 3 := op.extractLsb' 0 3

/-- `rp`: op[5:4] (R81). -/
def field54 (op : Byte) : BitVec 2 := op.extractLsb' 4 2

/-- reg8[n] (R85). -/
def Reg8.ofBits (n : BitVec 3) : Reg8 :=
  match n.toNat with
  | 0 => .b
  | 1 => .c
  | 2 => .d
  | 3 => .e
  | 4 => .h
  | 5 => .l
  | 6 => .m
  | _ => .a

/-- The selector's value in its field. -/
def Reg8.bits : Reg8 → BitVec 3
  | .b => 0
  | .c => 1
  | .d => 2
  | .e => 3
  | .h => 4
  | .l => 5
  | .m => 6
  | .a => 7

/-- rp[n] (R86). -/
def Pair.ofBits (n : BitVec 2) : Pair :=
  match n.toNat with
  | 0 => .bc
  | 1 => .de
  | 2 => .hl
  | _ => .sp

/-- The selector's value in its field. -/
def Pair.bits : Pair → BitVec 2
  | .bc => 0
  | .de => 1
  | .hl => 2
  | .sp => 3

/-- cond(n) (R87). -/
def Cond.ofBits (n : BitVec 3) : Cond :=
  match n.toNat with
  | 0 => .nz
  | 1 => .z
  | 2 => .nc
  | 3 => .c
  | 4 => .po
  | 5 => .pe
  | 6 => .p
  | _ => .m

/-- The selector's value in its field. -/
def Cond.bits : Cond → BitVec 3
  | .nz => 0
  | .z => 1
  | .nc => 2
  | .c => 3
  | .po => 4
  | .pe => 5
  | .p => 6
  | .m => 7

/-- AluOp(n, ·) (R88, R128). -/
def AluOp.ofBits (n : BitVec 3) : AluOp :=
  match n.toNat with
  | 0 => .add
  | 1 => .adc
  | 2 => .sub
  | 3 => .sbb
  | 4 => .ana
  | 5 => .xra
  | 6 => .ora
  | _ => .cmp

/-- The selector's value in its field. -/
def AluOp.bits : AluOp → BitVec 3
  | .add => 0
  | .adc => 1
  | .sub => 2
  | .sbb => 3
  | .ana => 4
  | .xra => 5
  | .ora => 6
  | .cmp => 7

/-! ## Families: the constructor that an opcode pattern and its selectors name -/

/-- "01dddsss" (R95). M,M is no move: the byte is HLT. -/
def Instr.mov : Reg8 → Reg8 → Option Instr
  | .b, .b => some .movBB
  | .b, .c => some .movBC
  | .b, .d => some .movBD
  | .b, .e => some .movBE
  | .b, .h => some .movBH
  | .b, .l => some .movBL
  | .b, .m => some .movBM
  | .b, .a => some .movBA
  | .c, .b => some .movCB
  | .c, .c => some .movCC
  | .c, .d => some .movCD
  | .c, .e => some .movCE
  | .c, .h => some .movCH
  | .c, .l => some .movCL
  | .c, .m => some .movCM
  | .c, .a => some .movCA
  | .d, .b => some .movDB
  | .d, .c => some .movDC
  | .d, .d => some .movDD
  | .d, .e => some .movDE
  | .d, .h => some .movDH
  | .d, .l => some .movDL
  | .d, .m => some .movDM
  | .d, .a => some .movDA
  | .e, .b => some .movEB
  | .e, .c => some .movEC
  | .e, .d => some .movED
  | .e, .e => some .movEE
  | .e, .h => some .movEH
  | .e, .l => some .movEL
  | .e, .m => some .movEM
  | .e, .a => some .movEA
  | .h, .b => some .movHB
  | .h, .c => some .movHC
  | .h, .d => some .movHD
  | .h, .e => some .movHE
  | .h, .h => some .movHH
  | .h, .l => some .movHL
  | .h, .m => some .movHM
  | .h, .a => some .movHA
  | .l, .b => some .movLB
  | .l, .c => some .movLC
  | .l, .d => some .movLD
  | .l, .e => some .movLE
  | .l, .h => some .movLH
  | .l, .l => some .movLL
  | .l, .m => some .movLM
  | .l, .a => some .movLA
  | .m, .b => some .movMB
  | .m, .c => some .movMC
  | .m, .d => some .movMD
  | .m, .e => some .movME
  | .m, .h => some .movMH
  | .m, .l => some .movML
  | .m, .m => none
  | .m, .a => some .movMA
  | .a, .b => some .movAB
  | .a, .c => some .movAC
  | .a, .d => some .movAD
  | .a, .e => some .movAE
  | .a, .h => some .movAH
  | .a, .l => some .movAL
  | .a, .m => some .movAM
  | .a, .a => some .movAA

/-- "10ooosss" (R93; with sss = 6 also stage 1, R92). -/
def Instr.alu : AluOp → Reg8 → Instr
  | .add, .b => .addB
  | .add, .c => .addC
  | .add, .d => .addD
  | .add, .e => .addE
  | .add, .h => .addH
  | .add, .l => .addL
  | .add, .m => .addM
  | .add, .a => .addA
  | .adc, .b => .adcB
  | .adc, .c => .adcC
  | .adc, .d => .adcD
  | .adc, .e => .adcE
  | .adc, .h => .adcH
  | .adc, .l => .adcL
  | .adc, .m => .adcM
  | .adc, .a => .adcA
  | .sub, .b => .subB
  | .sub, .c => .subC
  | .sub, .d => .subD
  | .sub, .e => .subE
  | .sub, .h => .subH
  | .sub, .l => .subL
  | .sub, .m => .subM
  | .sub, .a => .subA
  | .sbb, .b => .sbbB
  | .sbb, .c => .sbbC
  | .sbb, .d => .sbbD
  | .sbb, .e => .sbbE
  | .sbb, .h => .sbbH
  | .sbb, .l => .sbbL
  | .sbb, .m => .sbbM
  | .sbb, .a => .sbbA
  | .ana, .b => .anaB
  | .ana, .c => .anaC
  | .ana, .d => .anaD
  | .ana, .e => .anaE
  | .ana, .h => .anaH
  | .ana, .l => .anaL
  | .ana, .m => .anaM
  | .ana, .a => .anaA
  | .xra, .b => .xraB
  | .xra, .c => .xraC
  | .xra, .d => .xraD
  | .xra, .e => .xraE
  | .xra, .h => .xraH
  | .xra, .l => .xraL
  | .xra, .m => .xraM
  | .xra, .a => .xraA
  | .ora, .b => .oraB
  | .ora, .c => .oraC
  | .ora, .d => .oraD
  | .ora, .e => .oraE
  | .ora, .h => .oraH
  | .ora, .l => .oraL
  | .ora, .m => .oraM
  | .ora, .a => .oraA
  | .cmp, .b => .cmpB
  | .cmp, .c => .cmpC
  | .cmp, .d => .cmpD
  | .cmp, .e => .cmpE
  | .cmp, .h => .cmpH
  | .cmp, .l => .cmpL
  | .cmp, .m => .cmpM
  | .cmp, .a => .cmpA

/-- "11ooo110" d8 (R88, R92). -/
def Instr.aluImm : AluOp → Byte → Instr
  | .add, v => .adi v
  | .adc, v => .aci v
  | .sub, v => .sui v
  | .sbb, v => .sbi v
  | .ana, v => .ani v
  | .xra, v => .xri v
  | .ora, v => .ori v
  | .cmp, v => .cpi v

/-- "00ddd110" d8 (R93; with ddd = 6 also stage 1). -/
def Instr.mvi : Reg8 → Byte → Instr
  | .b, v => .mviB v
  | .c, v => .mviC v
  | .d, v => .mviD v
  | .e, v => .mviE v
  | .h, v => .mviH v
  | .l, v => .mviL v
  | .m, v => .mviM v
  | .a, v => .mviA v

/-- "00ddd100" (R93; with ddd = 6 also stage 1). -/
def Instr.inr : Reg8 → Instr
  | .b => .inrB
  | .c => .inrC
  | .d => .inrD
  | .e => .inrE
  | .h => .inrH
  | .l => .inrL
  | .m => .inrM
  | .a => .inrA

/-- "00ddd101" (R93; with ddd = 6 also stage 1). -/
def Instr.dcr : Reg8 → Instr
  | .b => .dcrB
  | .c => .dcrC
  | .d => .dcrD
  | .e => .dcrE
  | .h => .dcrH
  | .l => .dcrL
  | .m => .dcrM
  | .a => .dcrA

/-- "11ccc010" a16 (R93). -/
def Instr.jcc : Cond → Word → Instr
  | .nz, a => .jnz a
  | .z, a => .jz a
  | .nc, a => .jnc a
  | .c, a => .jc a
  | .po, a => .jpo a
  | .pe, a => .jpe a
  | .p, a => .jp a
  | .m, a => .jm a

/-- "11ccc100" a16 (R93). -/
def Instr.ccc : Cond → Word → Instr
  | .nz, a => .cnz a
  | .z, a => .cz a
  | .nc, a => .cnc a
  | .c, a => .cc a
  | .po, a => .cpo a
  | .pe, a => .cpe a
  | .p, a => .cp a
  | .m, a => .cm a

/-- "11ccc000" (R93). -/
def Instr.rcc : Cond → Instr
  | .nz => .rnz
  | .z => .rz
  | .nc => .rnc
  | .c => .rc
  | .po => .rpo
  | .pe => .rpe
  | .p => .rp
  | .m => .rm

/-- "11nnn111" (R93). -/
def Instr.rst (n : BitVec 3) : Instr :=
  match n.toNat with
  | 0 => .rst0
  | 1 => .rst1
  | 2 => .rst2
  | 3 => .rst3
  | 4 => .rst4
  | 5 => .rst5
  | 6 => .rst6
  | _ => .rst7

/-- "00pp0001" d16 (R94). -/
def Instr.lxi : Pair → Word → Instr
  | .bc, v => .lxiB v
  | .de, v => .lxiD v
  | .hl, v => .lxiH v
  | .sp, v => .lxiSP v

/-- "00pp0011" (R94). -/
def Instr.inx : Pair → Instr
  | .bc => .inxB
  | .de => .inxD
  | .hl => .inxH
  | .sp => .inxSP

/-- "00pp1011" (R94). -/
def Instr.dcx : Pair → Instr
  | .bc => .dcxB
  | .de => .dcxD
  | .hl => .dcxH
  | .sp => .dcxSP

/-- "00pp1001" (R94). -/
def Instr.dad : Pair → Instr
  | .bc => .dadB
  | .de => .dadD
  | .hl => .dadH
  | .sp => .dadSP

/-- "000p1010", through BC or DE only (R94). -/
def Instr.ldax : Pair → Option Instr
  | .bc => some .ldaxB
  | .de => some .ldaxD
  | .hl => none
  | .sp => none

/-- "000p0010", through BC or DE only (R94). -/
def Instr.stax : Pair → Option Instr
  | .bc => some .staxB
  | .de => some .staxD
  | .hl => none
  | .sp => none

/-- "11pp0101": no PUSH selects SP (R86, R94). -/
def Instr.push : Pair → Option Instr
  | .bc => some .pushB
  | .de => some .pushD
  | .hl => some .pushH
  | .sp => none

/-- "11pp0001": no POP selects SP (R86, R94). -/
def Instr.pop : Pair → Option Instr
  | .bc => some .popB
  | .de => some .popD
  | .hl => some .popH
  | .sp => none

/-! ## Dispatch on the opcode byte -/

/-- What an opcode byte selects: an instruction of one of the three formats (R82), waiting for its operand. -/
inductive Template where
  | f1 (i : Instr)
  | f2 (mk : Byte → Instr)
  | f3 (mk : Word → Instr)

/-- Stage 1, the explicit single-opcode table (R92), part 1 of 2. -/
def stage1Rows1 : List (Byte × Template) :=
  [
   -- no-operation and its seven undocumented bytes
   (0x00, .f1 .nop), (0x08, .f1 .nop08), (0x10, .f1 .nop10), (0x18, .f1 .nop18),
   (0x20, .f1 .nop20), (0x28, .f1 .nop28), (0x30, .f1 .nop30), (0x38, .f1 .nop38),
   -- rotate accumulator
   (0x07, .f1 .rlc), (0x0F, .f1 .rrc), (0x17, .f1 .ral), (0x1F, .f1 .rar),
   -- load and store of HL direct
   (0x22, .f3 .shld), (0x2A, .f3 .lhld),
   -- decimal adjust; complement accumulator
   (0x27, .f1 .daa), (0x2F, .f1 .cma),
   -- store and load accumulator direct
   (0x32, .f3 .sta), (0x3A, .f3 .lda),
   -- INR, DCR, MVI on M
   (0x34, .f1 .inrM), (0x35, .f1 .dcrM), (0x36, .f2 .mviM),
   -- set and complement carry
   (0x37, .f1 .stc), (0x3F, .f1 .cmc),
   -- halt
   (0x76, .f1 .hlt)]

/-- Stage 1, the explicit single-opcode table (R92), part 2 of 2. -/
def stage1Rows2 : List (Byte × Template) :=
  [
   -- ALU against the byte at HL
   (0x86, .f1 .addM), (0x8E, .f1 .adcM), (0x96, .f1 .subM), (0x9E, .f1 .sbbM),
   (0xA6, .f1 .anaM), (0xAE, .f1 .xraM), (0xB6, .f1 .oraM), (0xBE, .f1 .cmpM),
   -- unconditional jump, call, return and the bytes that stand for them
   (0xC3, .f3 .jmp), (0xCB, .f3 .jmpCB), (0xCD, .f3 .call), (0xDD, .f3 .callDD),
   (0xED, .f3 .callED), (0xFD, .f3 .callFD), (0xC9, .f1 .ret), (0xD9, .f1 .retD9),
   -- ALU immediate
   (0xC6, .f2 .adi), (0xCE, .f2 .aci), (0xD6, .f2 .sui), (0xDE, .f2 .sbi),
   (0xE6, .f2 .ani), (0xEE, .f2 .xri), (0xF6, .f2 .ori), (0xFE, .f2 .cpi),
   -- port output and input
   (0xD3, .f2 .outPort), (0xDB, .f2 .inPort),
   -- exchanges, PCHL, SPHL
   (0xE3, .f1 .xthl), (0xEB, .f1 .xchg), (0xE9, .f1 .pchl), (0xF9, .f1 .sphl),
   -- push and pop of A and the flags
   (0xF5, .f1 .pushPSW), (0xF1, .f1 .popPSW),
   -- disable and enable interrupts
   (0xF3, .f1 .di), (0xFB, .f1 .ei)]

/-- Stage 1 (R92). -/
def stage1 (op : Byte) : Option Template :=
  (stage1Rows1 ++ stage1Rows2).lookup op

/-- Stage 2, the bit-field families (R93). -/
def stage2 (op : Byte) : Option Template :=
  if op &&& 0xC0 = 0x80 then some (.f1 (.alu (.ofBits (field53 op)) (.ofBits (field20 op))))
  else if op &&& 0xC7 = 0xC7 then some (.f1 (.rst (field53 op)))
  else if op &&& 0xC7 = 0xC4 then some (.f3 (.ccc (.ofBits (field53 op))))
  else if op &&& 0xC7 = 0xC2 then some (.f3 (.jcc (.ofBits (field53 op))))
  else if op &&& 0xC7 = 0xC0 then some (.f1 (.rcc (.ofBits (field53 op))))
  else if op &&& 0xC7 = 0x06 then some (.f2 (.mvi (.ofBits (field53 op))))
  else if op &&& 0xC7 = 0x04 then some (.f1 (.inr (.ofBits (field53 op))))
  else if op &&& 0xC7 = 0x05 then some (.f1 (.dcr (.ofBits (field53 op))))
  else none

/-- Stage 3, the register-pair families (R94). -/
def stage3 (op : Byte) : Option Template :=
  if op &&& 0xCF = 0xC5 then (Instr.push (.ofBits (field54 op))).map .f1
  else if op &&& 0xCF = 0xC1 then (Instr.pop (.ofBits (field54 op))).map .f1
  else if op &&& 0xCF = 0x0B then some (.f1 (.dcx (.ofBits (field54 op))))
  else if op &&& 0xCF = 0x03 then some (.f1 (.inx (.ofBits (field54 op))))
  else if op &&& 0xEF = 0x0A then (Instr.ldax (.ofBits (field54 op))).map .f1
  else if op &&& 0xEF = 0x02 then (Instr.stax (.ofBits (field54 op))).map .f1
  else if op &&& 0xCF = 0x09 then some (.f1 (.dad (.ofBits (field54 op))))
  else if op &&& 0xCF = 0x01 then some (.f3 (.lxi (.ofBits (field54 op))))
  else none

/-- Stage 4, the generic move (R95). -/
def stage4 (op : Byte) : Option Template :=
  if op &&& 0xC0 = 0x40 then (Instr.mov (.ofBits (field53 op)) (.ofBits (field20 op))).map .f1
  else none

/-- `Dispatch(op)`: the four stages in order, the first match wins (R91). `none` is stage 5, decode failure. -/
def dispatch (op : Byte) : Option Template :=
  (stage1 op).orElse fun _ => (stage2 op).orElse fun _ => (stage3 op).orElse fun _ => stage4 op

/-! ## Decoding bytes -/

/-- Why a byte string is not decoded. -/
inductive Reject where
  /-- There is no byte. -/
  | noBytes
  /-- The bytes end inside the operand of the opcode `op`. -/
  | missingOperand (op : Byte)
  /-- `op` matched none of the four stages (R91 stage 5, R301). No byte does (R96). -/
  | noMatch (op : Byte)
deriving DecidableEq, Repr

/-- The instruction at the front of a byte string, and the bytes after it (R80, R83, R84). -/
def decode : List Byte → Except Reject (Instr × List Byte)
  | [] => .error .noBytes
  | op :: rest =>
    match dispatch op with
    | none => .error (.noMatch op)
    | some (.f1 i) => .ok (i, rest)
    | some (.f2 mk) =>
      match rest with
      | v :: rest => .ok (mk v, rest)
      | [] => .error (.missingOperand op)
    | some (.f3 mk) =>
      match rest with
      | lo :: hi :: rest => .ok (mk (Word.ofBytes hi lo), rest)
      | _ => .error (.missingOperand op)

/-- The byte number `k` of an instruction whose bits are `w`, numbered as opcode_table.json numbers them; zero above `nbits`. -/
def tableByte (nbits w k : Nat) : Byte :=
  if 8 * k < nbits then BitVec.ofNat 8 (w / 2 ^ (8 * k)) else 0

/-- The bytes of such an instruction, in memory order, up to the longest instruction. -/
def tableBytes (nbits w : Nat) : List Byte :=
  [tableByte nbits w 0, tableByte nbits w 1, tableByte nbits w 2]

/-- The instruction the decoder reads from such an instruction's bytes. -/
def decodeTableWord (nbits w : Nat) : Option Instr :=
  match decode (tableBytes nbits w) with
  | .ok (i, _) => some i
  | .error _ => none

/-! ## The encoder -/

/-- An F3 instruction's bytes: the operand's low byte first (R82, R84). -/
def encodeWord (op : Byte) (v : Word) : List Byte := [op, Word.lo v, Word.hi v]

/-- The bytes of an instruction, from the opcode map (R97) and the formats (R82). -/
def encode : Instr → List Byte
  | .nop => [0x00]
  | .lxiB v => encodeWord 0x01 v
  | .staxB => [0x02]
  | .inxB => [0x03]
  | .inrB => [0x04]
  | .dcrB => [0x05]
  | .mviB v => [0x06, v]
  | .rlc => [0x07]
  | .nop08 => [0x08]
  | .dadB => [0x09]
  | .ldaxB => [0x0A]
  | .dcxB => [0x0B]
  | .inrC => [0x0C]
  | .dcrC => [0x0D]
  | .mviC v => [0x0E, v]
  | .rrc => [0x0F]
  | .nop10 => [0x10]
  | .lxiD v => encodeWord 0x11 v
  | .staxD => [0x12]
  | .inxD => [0x13]
  | .inrD => [0x14]
  | .dcrD => [0x15]
  | .mviD v => [0x16, v]
  | .ral => [0x17]
  | .nop18 => [0x18]
  | .dadD => [0x19]
  | .ldaxD => [0x1A]
  | .dcxD => [0x1B]
  | .inrE => [0x1C]
  | .dcrE => [0x1D]
  | .mviE v => [0x1E, v]
  | .rar => [0x1F]
  | .nop20 => [0x20]
  | .lxiH v => encodeWord 0x21 v
  | .shld a => encodeWord 0x22 a
  | .inxH => [0x23]
  | .inrH => [0x24]
  | .dcrH => [0x25]
  | .mviH v => [0x26, v]
  | .daa => [0x27]
  | .nop28 => [0x28]
  | .dadH => [0x29]
  | .lhld a => encodeWord 0x2A a
  | .dcxH => [0x2B]
  | .inrL => [0x2C]
  | .dcrL => [0x2D]
  | .mviL v => [0x2E, v]
  | .cma => [0x2F]
  | .nop30 => [0x30]
  | .lxiSP v => encodeWord 0x31 v
  | .sta a => encodeWord 0x32 a
  | .inxSP => [0x33]
  | .inrM => [0x34]
  | .dcrM => [0x35]
  | .mviM v => [0x36, v]
  | .stc => [0x37]
  | .nop38 => [0x38]
  | .dadSP => [0x39]
  | .lda a => encodeWord 0x3A a
  | .dcxSP => [0x3B]
  | .inrA => [0x3C]
  | .dcrA => [0x3D]
  | .mviA v => [0x3E, v]
  | .cmc => [0x3F]
  | .movBB => [0x40]
  | .movBC => [0x41]
  | .movBD => [0x42]
  | .movBE => [0x43]
  | .movBH => [0x44]
  | .movBL => [0x45]
  | .movBM => [0x46]
  | .movBA => [0x47]
  | .movCB => [0x48]
  | .movCC => [0x49]
  | .movCD => [0x4A]
  | .movCE => [0x4B]
  | .movCH => [0x4C]
  | .movCL => [0x4D]
  | .movCM => [0x4E]
  | .movCA => [0x4F]
  | .movDB => [0x50]
  | .movDC => [0x51]
  | .movDD => [0x52]
  | .movDE => [0x53]
  | .movDH => [0x54]
  | .movDL => [0x55]
  | .movDM => [0x56]
  | .movDA => [0x57]
  | .movEB => [0x58]
  | .movEC => [0x59]
  | .movED => [0x5A]
  | .movEE => [0x5B]
  | .movEH => [0x5C]
  | .movEL => [0x5D]
  | .movEM => [0x5E]
  | .movEA => [0x5F]
  | .movHB => [0x60]
  | .movHC => [0x61]
  | .movHD => [0x62]
  | .movHE => [0x63]
  | .movHH => [0x64]
  | .movHL => [0x65]
  | .movHM => [0x66]
  | .movHA => [0x67]
  | .movLB => [0x68]
  | .movLC => [0x69]
  | .movLD => [0x6A]
  | .movLE => [0x6B]
  | .movLH => [0x6C]
  | .movLL => [0x6D]
  | .movLM => [0x6E]
  | .movLA => [0x6F]
  | .movMB => [0x70]
  | .movMC => [0x71]
  | .movMD => [0x72]
  | .movME => [0x73]
  | .movMH => [0x74]
  | .movML => [0x75]
  | .hlt => [0x76]
  | .movMA => [0x77]
  | .movAB => [0x78]
  | .movAC => [0x79]
  | .movAD => [0x7A]
  | .movAE => [0x7B]
  | .movAH => [0x7C]
  | .movAL => [0x7D]
  | .movAM => [0x7E]
  | .movAA => [0x7F]
  | .addB => [0x80]
  | .addC => [0x81]
  | .addD => [0x82]
  | .addE => [0x83]
  | .addH => [0x84]
  | .addL => [0x85]
  | .addM => [0x86]
  | .addA => [0x87]
  | .adcB => [0x88]
  | .adcC => [0x89]
  | .adcD => [0x8A]
  | .adcE => [0x8B]
  | .adcH => [0x8C]
  | .adcL => [0x8D]
  | .adcM => [0x8E]
  | .adcA => [0x8F]
  | .subB => [0x90]
  | .subC => [0x91]
  | .subD => [0x92]
  | .subE => [0x93]
  | .subH => [0x94]
  | .subL => [0x95]
  | .subM => [0x96]
  | .subA => [0x97]
  | .sbbB => [0x98]
  | .sbbC => [0x99]
  | .sbbD => [0x9A]
  | .sbbE => [0x9B]
  | .sbbH => [0x9C]
  | .sbbL => [0x9D]
  | .sbbM => [0x9E]
  | .sbbA => [0x9F]
  | .anaB => [0xA0]
  | .anaC => [0xA1]
  | .anaD => [0xA2]
  | .anaE => [0xA3]
  | .anaH => [0xA4]
  | .anaL => [0xA5]
  | .anaM => [0xA6]
  | .anaA => [0xA7]
  | .xraB => [0xA8]
  | .xraC => [0xA9]
  | .xraD => [0xAA]
  | .xraE => [0xAB]
  | .xraH => [0xAC]
  | .xraL => [0xAD]
  | .xraM => [0xAE]
  | .xraA => [0xAF]
  | .oraB => [0xB0]
  | .oraC => [0xB1]
  | .oraD => [0xB2]
  | .oraE => [0xB3]
  | .oraH => [0xB4]
  | .oraL => [0xB5]
  | .oraM => [0xB6]
  | .oraA => [0xB7]
  | .cmpB => [0xB8]
  | .cmpC => [0xB9]
  | .cmpD => [0xBA]
  | .cmpE => [0xBB]
  | .cmpH => [0xBC]
  | .cmpL => [0xBD]
  | .cmpM => [0xBE]
  | .cmpA => [0xBF]
  | .rnz => [0xC0]
  | .popB => [0xC1]
  | .jnz a => encodeWord 0xC2 a
  | .jmp a => encodeWord 0xC3 a
  | .cnz a => encodeWord 0xC4 a
  | .pushB => [0xC5]
  | .adi v => [0xC6, v]
  | .rst0 => [0xC7]
  | .rz => [0xC8]
  | .ret => [0xC9]
  | .jz a => encodeWord 0xCA a
  | .jmpCB a => encodeWord 0xCB a
  | .cz a => encodeWord 0xCC a
  | .call a => encodeWord 0xCD a
  | .aci v => [0xCE, v]
  | .rst1 => [0xCF]
  | .rnc => [0xD0]
  | .popD => [0xD1]
  | .jnc a => encodeWord 0xD2 a
  | .outPort p => [0xD3, p]
  | .cnc a => encodeWord 0xD4 a
  | .pushD => [0xD5]
  | .sui v => [0xD6, v]
  | .rst2 => [0xD7]
  | .rc => [0xD8]
  | .retD9 => [0xD9]
  | .jc a => encodeWord 0xDA a
  | .inPort p => [0xDB, p]
  | .cc a => encodeWord 0xDC a
  | .callDD a => encodeWord 0xDD a
  | .sbi v => [0xDE, v]
  | .rst3 => [0xDF]
  | .rpo => [0xE0]
  | .popH => [0xE1]
  | .jpo a => encodeWord 0xE2 a
  | .xthl => [0xE3]
  | .cpo a => encodeWord 0xE4 a
  | .pushH => [0xE5]
  | .ani v => [0xE6, v]
  | .rst4 => [0xE7]
  | .rpe => [0xE8]
  | .pchl => [0xE9]
  | .jpe a => encodeWord 0xEA a
  | .xchg => [0xEB]
  | .cpe a => encodeWord 0xEC a
  | .callED a => encodeWord 0xED a
  | .xri v => [0xEE, v]
  | .rst5 => [0xEF]
  | .rp => [0xF0]
  | .popPSW => [0xF1]
  | .jp a => encodeWord 0xF2 a
  | .di => [0xF3]
  | .cp a => encodeWord 0xF4 a
  | .pushPSW => [0xF5]
  | .ori v => [0xF6, v]
  | .rst6 => [0xF7]
  | .rm => [0xF8]
  | .sphl => [0xF9]
  | .jm a => encodeWord 0xFA a
  | .ei => [0xFB]
  | .cm a => encodeWord 0xFC a
  | .callFD a => encodeWord 0xFD a
  | .cpi v => [0xFE, v]
  | .rst7 => [0xFF]

/-- The number of bytes of an instruction (R80). -/
def Instr.length (i : Instr) : Nat := (encode i).length

/-! ## Forms -/

/-- The form of an instruction: opcode_table.json's "form" column, R352's rows. -/
def Instr.form : Instr → Form
  | .nop => .nop
  | .lxiB _ => .lxi .bc
  | .staxB => .stax .bc
  | .inxB => .inx .bc
  | .inrB => .inr .b
  | .dcrB => .dcr .b
  | .mviB _ => .mvi .b
  | .rlc => .rlc
  | .nop08 => .nop
  | .dadB => .dad .bc
  | .ldaxB => .ldax .bc
  | .dcxB => .dcx .bc
  | .inrC => .inr .c
  | .dcrC => .dcr .c
  | .mviC _ => .mvi .c
  | .rrc => .rrc
  | .nop10 => .nop
  | .lxiD _ => .lxi .de
  | .staxD => .stax .de
  | .inxD => .inx .de
  | .inrD => .inr .d
  | .dcrD => .dcr .d
  | .mviD _ => .mvi .d
  | .ral => .ral
  | .nop18 => .nop
  | .dadD => .dad .de
  | .ldaxD => .ldax .de
  | .dcxD => .dcx .de
  | .inrE => .inr .e
  | .dcrE => .dcr .e
  | .mviE _ => .mvi .e
  | .rar => .rar
  | .nop20 => .nop
  | .lxiH _ => .lxi .hl
  | .shld _ => .shld
  | .inxH => .inx .hl
  | .inrH => .inr .h
  | .dcrH => .dcr .h
  | .mviH _ => .mvi .h
  | .daa => .daa
  | .nop28 => .nop
  | .dadH => .dad .hl
  | .lhld _ => .lhld
  | .dcxH => .dcx .hl
  | .inrL => .inr .l
  | .dcrL => .dcr .l
  | .mviL _ => .mvi .l
  | .cma => .cma
  | .nop30 => .nop
  | .lxiSP _ => .lxi .sp
  | .sta _ => .sta
  | .inxSP => .inx .sp
  | .inrM => .inr .m
  | .dcrM => .dcr .m
  | .mviM _ => .mvi .m
  | .stc => .stc
  | .nop38 => .nop
  | .dadSP => .dad .sp
  | .lda _ => .lda
  | .dcxSP => .dcx .sp
  | .inrA => .inr .a
  | .dcrA => .dcr .a
  | .mviA _ => .mvi .a
  | .cmc => .cmc
  | .movBB => .mov .b .b
  | .movBC => .mov .b .c
  | .movBD => .mov .b .d
  | .movBE => .mov .b .e
  | .movBH => .mov .b .h
  | .movBL => .mov .b .l
  | .movBM => .mov .b .m
  | .movBA => .mov .b .a
  | .movCB => .mov .c .b
  | .movCC => .mov .c .c
  | .movCD => .mov .c .d
  | .movCE => .mov .c .e
  | .movCH => .mov .c .h
  | .movCL => .mov .c .l
  | .movCM => .mov .c .m
  | .movCA => .mov .c .a
  | .movDB => .mov .d .b
  | .movDC => .mov .d .c
  | .movDD => .mov .d .d
  | .movDE => .mov .d .e
  | .movDH => .mov .d .h
  | .movDL => .mov .d .l
  | .movDM => .mov .d .m
  | .movDA => .mov .d .a
  | .movEB => .mov .e .b
  | .movEC => .mov .e .c
  | .movED => .mov .e .d
  | .movEE => .mov .e .e
  | .movEH => .mov .e .h
  | .movEL => .mov .e .l
  | .movEM => .mov .e .m
  | .movEA => .mov .e .a
  | .movHB => .mov .h .b
  | .movHC => .mov .h .c
  | .movHD => .mov .h .d
  | .movHE => .mov .h .e
  | .movHH => .mov .h .h
  | .movHL => .mov .h .l
  | .movHM => .mov .h .m
  | .movHA => .mov .h .a
  | .movLB => .mov .l .b
  | .movLC => .mov .l .c
  | .movLD => .mov .l .d
  | .movLE => .mov .l .e
  | .movLH => .mov .l .h
  | .movLL => .mov .l .l
  | .movLM => .mov .l .m
  | .movLA => .mov .l .a
  | .movMB => .mov .m .b
  | .movMC => .mov .m .c
  | .movMD => .mov .m .d
  | .movME => .mov .m .e
  | .movMH => .mov .m .h
  | .movML => .mov .m .l
  | .hlt => .hlt
  | .movMA => .mov .m .a
  | .movAB => .mov .a .b
  | .movAC => .mov .a .c
  | .movAD => .mov .a .d
  | .movAE => .mov .a .e
  | .movAH => .mov .a .h
  | .movAL => .mov .a .l
  | .movAM => .mov .a .m
  | .movAA => .mov .a .a
  | .addB => .alu .add .b
  | .addC => .alu .add .c
  | .addD => .alu .add .d
  | .addE => .alu .add .e
  | .addH => .alu .add .h
  | .addL => .alu .add .l
  | .addM => .alu .add .m
  | .addA => .alu .add .a
  | .adcB => .alu .adc .b
  | .adcC => .alu .adc .c
  | .adcD => .alu .adc .d
  | .adcE => .alu .adc .e
  | .adcH => .alu .adc .h
  | .adcL => .alu .adc .l
  | .adcM => .alu .adc .m
  | .adcA => .alu .adc .a
  | .subB => .alu .sub .b
  | .subC => .alu .sub .c
  | .subD => .alu .sub .d
  | .subE => .alu .sub .e
  | .subH => .alu .sub .h
  | .subL => .alu .sub .l
  | .subM => .alu .sub .m
  | .subA => .alu .sub .a
  | .sbbB => .alu .sbb .b
  | .sbbC => .alu .sbb .c
  | .sbbD => .alu .sbb .d
  | .sbbE => .alu .sbb .e
  | .sbbH => .alu .sbb .h
  | .sbbL => .alu .sbb .l
  | .sbbM => .alu .sbb .m
  | .sbbA => .alu .sbb .a
  | .anaB => .alu .ana .b
  | .anaC => .alu .ana .c
  | .anaD => .alu .ana .d
  | .anaE => .alu .ana .e
  | .anaH => .alu .ana .h
  | .anaL => .alu .ana .l
  | .anaM => .alu .ana .m
  | .anaA => .alu .ana .a
  | .xraB => .alu .xra .b
  | .xraC => .alu .xra .c
  | .xraD => .alu .xra .d
  | .xraE => .alu .xra .e
  | .xraH => .alu .xra .h
  | .xraL => .alu .xra .l
  | .xraM => .alu .xra .m
  | .xraA => .alu .xra .a
  | .oraB => .alu .ora .b
  | .oraC => .alu .ora .c
  | .oraD => .alu .ora .d
  | .oraE => .alu .ora .e
  | .oraH => .alu .ora .h
  | .oraL => .alu .ora .l
  | .oraM => .alu .ora .m
  | .oraA => .alu .ora .a
  | .cmpB => .alu .cmp .b
  | .cmpC => .alu .cmp .c
  | .cmpD => .alu .cmp .d
  | .cmpE => .alu .cmp .e
  | .cmpH => .alu .cmp .h
  | .cmpL => .alu .cmp .l
  | .cmpM => .alu .cmp .m
  | .cmpA => .alu .cmp .a
  | .rnz => .rcc .nz
  | .popB => .pop .bc
  | .jnz _ => .jcc .nz
  | .jmp _ => .jmp
  | .cnz _ => .ccc .nz
  | .pushB => .push .bc
  | .adi _ => .aluImm .add
  | .rst0 => .rst 0
  | .rz => .rcc .z
  | .ret => .ret
  | .jz _ => .jcc .z
  | .jmpCB _ => .jmp
  | .cz _ => .ccc .z
  | .call _ => .call
  | .aci _ => .aluImm .adc
  | .rst1 => .rst 1
  | .rnc => .rcc .nc
  | .popD => .pop .de
  | .jnc _ => .jcc .nc
  | .outPort _ => .outPort
  | .cnc _ => .ccc .nc
  | .pushD => .push .de
  | .sui _ => .aluImm .sub
  | .rst2 => .rst 2
  | .rc => .rcc .c
  | .retD9 => .ret
  | .jc _ => .jcc .c
  | .inPort _ => .inPort
  | .cc _ => .ccc .c
  | .callDD _ => .call
  | .sbi _ => .aluImm .sbb
  | .rst3 => .rst 3
  | .rpo => .rcc .po
  | .popH => .pop .hl
  | .jpo _ => .jcc .po
  | .xthl => .xthl
  | .cpo _ => .ccc .po
  | .pushH => .push .hl
  | .ani _ => .aluImm .ana
  | .rst4 => .rst 4
  | .rpe => .rcc .pe
  | .pchl => .pchl
  | .jpe _ => .jcc .pe
  | .xchg => .xchg
  | .cpe _ => .ccc .pe
  | .callED _ => .call
  | .xri _ => .aluImm .xra
  | .rst5 => .rst 5
  | .rp => .rcc .p
  | .popPSW => .popPSW
  | .jp _ => .jcc .p
  | .di => .di
  | .cp _ => .ccc .p
  | .pushPSW => .pushPSW
  | .ori _ => .aluImm .ora
  | .rst6 => .rst 6
  | .rm => .rcc .m
  | .sphl => .sphl
  | .jm _ => .jcc .m
  | .ei => .ei
  | .cm _ => .ccc .m
  | .callFD _ => .call
  | .cpi _ => .aluImm .cmp
  | .rst7 => .rst 7

/-- The form that a template's instruction has, whatever its operand. -/
def Template.form : Template → Form
  | .f1 i => i.form
  | .f2 mk => (mk 0).form
  | .f3 mk => (mk 0).form

end Sys2Proof
end

