-- ==== Sys2Proof/Config.lean ====
section
/-! DEFINITION. The parameters that spec/00_scope.md R6 leaves open, each at the default the spec recommends or as a free value
with no body. -/

namespace Sys2Proof.Config

/-- The values that reset leaves unspecified: `RESET_REGS` (R40) and lastPC (R41). -/
structure ResetRegs where
  a : Byte
  b : Byte
  c : Byte
  d : Byte
  e : Byte
  h : Byte
  l : Byte
  sp : Word
  lastPC : Word
deriving DecidableEq, Repr

/-- `RESET_VECTOR`: open (D1), at the recommended default. PRESUMED, log 1: unsafe. -/
def resetVector : Word := 0x0000#16

/-- `RESET_REGS`: open (D2). DESIGN CHOICE, logs 2 and 3: unsafe; no statement may rest on it. -/
def resetRegs : ResetRegs :=
  { a := 0, b := 0, c := 0, d := 0, e := 0, h := 0, l := 0, sp := 0, lastPC := 0 }

/-- What a memory byte reads as when nothing has written it. DESIGN CHOICE, log 4: unsafe. -/
def unwritten : Byte := 0x00#8

/-- `PortInValue`: the byte the host answers to a port input, a free value for each draw and port (R62, D7). Log 6: safe. -/
opaque portInValue : Nat → Byte → Byte

/-- `CYCLES_JCC_TAKEN`: open (D13), at its default. PRESUMED, log 10: unsafe for claims about time. -/
def cyclesJccTaken : Nat := 10

/-- `CYCLES_JCC_NOT_TAKEN`: open (D13), at its default. PRESUMED, log 10: unsafe for claims about time. -/
def cyclesJccNotTaken : Nat := 10

/-- How far below -1 the decode-failure sentinel lies: a free value (D17). Log 11: safe. -/
opaque decodeFailDepth : Nat

/-- `DECODE_FAIL_SENTINEL`: some negative integer, no proof can see which (R302, D17). -/
def decodeFailSentinel : Int := -1 - (decodeFailDepth : Int)

end Sys2Proof.Config
end

