-- ==== Sys2Proof/Machine/State.lean ====
section
/-! DEFINITION. What the machine is made of: the core's state record (spec/10_state.md R20, complete by R32), the host's memory
(spec/20_memory.md R50, R62), the record of the transactions the core has issued (R53), and the state after reset (R37-R41). -/

namespace Sys2Proof.Machine

/-- Why a step stops with a fault. -/
inductive Fault where
  /-- The opcode matched no dispatch stage (R301). Raised by `stepWith` where the fetch finds no instruction, which no byte
  causes (R96). Safe: the spec gives no state after it and says a model must stop. -/
  | decodeFailure
deriving DecidableEq, Repr

/-- Why the model has no meaning for an instruction. -/
inductive Refusal where
  /-- The instruction has no meaning in the model yet. Raised by an arm of `exec` only, and by none of them now. Safe. -/
  | notModelled (mnemonic : String)
deriving DecidableEq, Repr

/-- One transaction between the core and the host, with the value it carried (R53: exactly these seven kinds). -/
inductive Transaction where
  | memReadByte (a : Word) (v : Byte)
  | memReadWord (a : Word) (v : Word)
  | memWriteByte (a : Word) (v : Byte)
  | memWriteWord (a : Word) (v : Word)
  | portIn (p : Byte) (v : Byte)
  | portOut (p : Byte) (v : Byte)
  | notifyIff (b : Bool)
deriving DecidableEq, Repr

/-- The five Boolean flags (R26). -/
structure Flags where
  fS : Bool
  fZ : Bool
  fH : Bool
  fP : Bool
  fC : Bool
deriving DecidableEq, Repr

/-- The host's memory (R62) in canonical form: addresses strictly rising, all below 2^16, and no byte listed that equals what an
unlisted address reads as. -/
abbrev Memory := List Host.Cell

/-- Every listed address is at least `lo`, the addresses rise, and every entry is one the canonical form lists. -/
def Memory.wfFrom (lo : Nat) : Memory → Bool
  | [] => true
  | (k, v) :: m => decide (lo ≤ k) && decide (k < 65536) && decide (v ≠ Config.unwritten) && Memory.wfFrom (k + 1) m

/-- The canonical form. -/
def Memory.wf (m : Memory) : Bool := Memory.wfFrom 0 m

/-- The machine: the core's registers, flags, IFF and lastPC (R20), the host's memory, and the model's own fields. -/
structure State where
  /-- The accumulator (R21). -/
  a : Byte
  b : Byte
  c : Byte
  d : Byte
  e : Byte
  h : Byte
  l : Byte
  /-- The stack pointer (R24). -/
  sp : Word
  /-- The program counter (R25). -/
  pc : Word
  flags : Flags
  /-- The interrupt-enable flag (R29): written by EI, DI and reset, read by no instruction. -/
  iff : Bool
  /-- Storage only (R31). -/
  lastPC : Word
  /-- The host's memory. -/
  mem : Memory
  /-- Model's own: the transactions issued so far, newest first (R53, R62; log 7). -/
  trace : List Transaction
  /-- Model's own: the cycle count the last completed step returned (R351; log 9). -/
  cycles : Nat
  /-- Model's own: the bytes the host has ready as answers to the coming port inputs (R57; log 6). -/
  portAnswers : List Byte
  /-- Model's own: how many port inputs have drawn a free value (R62; log 6). -/
  portDraws : Nat
deriving DecidableEq, Repr

/-- The flags after reset (R37). -/
def Flags.reset : Flags := { fS := false, fZ := false, fH := false, fP := false, fC := false }

/-- The machine right after reset (R37-R41), before the host has written memory or any transaction was issued. -/
def State.reset : State :=
  { a := Config.resetRegs.a, b := Config.resetRegs.b, c := Config.resetRegs.c, d := Config.resetRegs.d,
    e := Config.resetRegs.e, h := Config.resetRegs.h, l := Config.resetRegs.l, sp := Config.resetRegs.sp,
    pc := Config.resetVector, flags := Flags.reset, iff := false, lastPC := Config.resetRegs.lastPC,
    mem := [], trace := [], cycles := 0, portAnswers := [], portDraws := 0 }

/-- What a step or an instruction's meaning answers. -/
abbrev Result := Host.Outcome State Fault Refusal

end Sys2Proof.Machine
end

