-- ==== Sys2Proof/Machine/Ops.lean ====
section
/-! DEFINITION. The named operations over memory, the bus and the stack: spec/00_scope.md R9's primitives, spec/20_memory.md
R53-R57 and spec/42_data_transfer.md R219. No instruction takes an exception and none returns from one, because the core has
neither (spec/60_exceptions.md R300, R306, R307): there is no such operation here. -/

namespace Sys2Proof.Machine

/-! ## The host's memory: plain storage (R62) -/

/-- The byte at an address. -/
def Memory.get : Memory → Nat → Byte
  | [], _ => Config.unwritten
  | (k, v) :: m, a => if a = k then v else Memory.get m a

/-- A byte put in front of a memory, listed only where it differs from what an unlisted address reads as. -/
def Memory.cons (k : Nat) (v : Byte) (m : Memory) : Memory :=
  if v = Config.unwritten then m else (k, v) :: m

/-- The memory with the byte at `a` changed to `v`, in canonical form. -/
def Memory.put : Memory → Nat → Byte → Memory
  | [], a, v => Memory.cons a v []
  | (k, x) :: m, a, v =>
    if a < k then Memory.cons a v ((k, x) :: m)
    else if a = k then Memory.cons a v m
    else (k, x) :: Memory.put m a v

/-- The byte at an address of the 16-bit space (R50). -/
def Memory.readByte (m : Memory) (a : Word) : Byte := m.get a.toNat

/-- A word: the low byte at `a`, the high byte at `trunc_16(a + 1)` (R54, R56). -/
def Memory.readWord (m : Memory) (a : Word) : Word := Word.ofBytes (Memory.readByte m (a + 1)) (Memory.readByte m a)

/-- One byte stored. -/
def Memory.writeByte (m : Memory) (a : Word) (v : Byte) : Memory := m.put a.toNat v

/-- A word stored: the low byte at `a`, the high byte at `trunc_16(a + 1)` (R55, R56). -/
def Memory.writeWord (m : Memory) (a : Word) (v : Word) : Memory :=
  Memory.writeByte (Memory.writeByte m a (Word.lo v)) (a + 1) (Word.hi v)

/-! ## Bus transactions (R53) -/

/-- The byte that a byte read at `a` would return now. -/
def State.byteAt (s : State) (a : Word) : Byte := Memory.readByte s.mem a

/-- The word that a word read at `a` would return now. -/
def State.wordAt (s : State) (a : Word) : Word := Memory.readWord s.mem a

/-- A transaction goes on the record. -/
def State.issue (s : State) (t : Transaction) : State := { s with trace := t :: s.trace }

/-- `MemRead(a, 1)`. -/
def State.memReadByte (s : State) (a : Word) : Byte × State := (s.byteAt a, s.issue (.memReadByte a (s.byteAt a)))

/-- `MemRead(a, 2)`: one transaction. -/
def State.memReadWord (s : State) (a : Word) : Word × State := (s.wordAt a, s.issue (.memReadWord a (s.wordAt a)))

/-- `MemWrite(a, 1, v)`. -/
def State.memWriteByte (s : State) (a : Word) (v : Byte) : State :=
  { s with mem := Memory.writeByte s.mem a v, trace := .memWriteByte a v :: s.trace }

/-- `MemWrite(a, 2, v)`: one transaction. -/
def State.memWriteWord (s : State) (a : Word) (v : Word) : State :=
  { s with mem := Memory.writeWord s.mem a v, trace := .memWriteWord a v :: s.trace }

/-- The byte the host answers to the next input from port `p`: the answer it has ready, else a free value (R57, R62). -/
def State.portValue (s : State) (p : Byte) : Byte :=
  match s.portAnswers with
  | v :: _ => v
  | [] => Config.portInValue s.portDraws p

/-- `PortIn(p)`: the answer is used up, or a free value has been drawn. -/
def State.portInput (s : State) (p : Byte) : Byte × State :=
  (s.portValue p,
    { s with
      portAnswers := s.portAnswers.tail
      portDraws := if s.portAnswers.isEmpty then s.portDraws + 1 else s.portDraws
      trace := .portIn p (s.portValue p) :: s.trace })

/-- `PortOut(p, v)`. -/
def State.portOutput (s : State) (p v : Byte) : State := s.issue (.portOut p v)

/-- `NotifyIff(b)`. -/
def State.notifyIff (s : State) (b : Bool) : State := s.issue (.notifyIff b)

/-! ## Fetching instruction bytes (R9) -/

/-- `FetchByte()`. -/
def State.fetchByte (s : State) : Byte × State :=
  let r := s.memReadByte s.pc
  (r.1, { r.2 with pc := s.pc + 1 })

/-- `FetchWord()`: one word read (R84). -/
def State.fetchWord (s : State) : Word × State :=
  let r := s.memReadWord s.pc
  (r.1, { r.2 with pc := s.pc + 2 })

/-! ## The stack (R219) -/

/-- `Push(v)`: the stack grows downward, one word transaction at the new SP. -/
def State.push (s : State) (v : Word) : State :=
  State.memWriteWord { s with sp := s.sp - 2 } (s.sp - 2) v

/-- `Pop()`: one word transaction at the old SP. -/
def State.pop (s : State) : Word × State :=
  let r := s.memReadWord s.sp
  (r.1, { r.2 with sp := s.sp + 2 })

end Sys2Proof.Machine
end

