-- ==== Sys2Proof/Machine/Operands.lean ====
section
/-! DEFINITION. The operand selectors over the state: the register pairs as views of their halves (spec/10_state.md R23), reg8
and rp (spec/30_encoding.md R85, R86) and the condition test (R87). -/

namespace Sys2Proof.Machine

/-! ## Register pairs (R23) -/

def State.bc (s : State) : Word := Word.ofBytes s.b s.c

def State.de (s : State) : Word := Word.ofBytes s.d s.e

def State.hl (s : State) : Word := Word.ofBytes s.h s.l

/-- `rp[p]` (R86). -/
def State.pair (s : State) : Pair → Word
  | .bc => s.bc
  | .de => s.de
  | .hl => s.hl
  | .sp => s.sp

/-- `rp[p] <- v` (R86): the high half to the first-named register, the low half to the second (R23). -/
def State.setPair (s : State) (p : Pair) (v : Word) : State :=
  match p with
  | .bc => { s with b := Word.hi v, c := Word.lo v }
  | .de => { s with d := Word.hi v, e := Word.lo v }
  | .hl => { s with h := Word.hi v, l := Word.lo v }
  | .sp => { s with sp := v }

/-! ## 8-bit operands (R85) -/

/-- The value of `reg8[r]`: for M the byte that a read at HL would return now (R30). -/
def State.reg8 (s : State) : Reg8 → Byte
  | .b => s.b
  | .c => s.c
  | .d => s.d
  | .e => s.e
  | .h => s.h
  | .l => s.l
  | .m => s.byteAt s.hl
  | .a => s.a

/-- The state after `reg8[r]` is read: a read of M is one byte transaction at HL (R30). -/
def State.afterReg8 (s : State) (r : Reg8) : State :=
  match r with
  | .m => (s.memReadByte s.hl).2
  | .b | .c | .d | .e | .h | .l | .a => s

/-- `reg8[r] <- v`: a write of M is one byte transaction at HL (R30). -/
def State.setReg8 (s : State) (r : Reg8) (v : Byte) : State :=
  match r with
  | .b => { s with b := v }
  | .c => { s with c := v }
  | .d => { s with d := v }
  | .e => { s with e := v }
  | .h => { s with h := v }
  | .l => { s with l := v }
  | .m => s.memWriteByte s.hl v
  | .a => { s with a := v }

/-! ## Conditions -/

/-- `cond(c)` (R87). -/
def condHolds (cond : Cond) (f : Flags) : Bool :=
  match cond with
  | .nz => !f.fZ
  | .z => f.fZ
  | .nc => !f.fC
  | .c => f.fC
  | .po => !f.fP
  | .pe => f.fP
  | .p => !f.fS
  | .m => f.fS

end Sys2Proof.Machine
end

