-- ==== Sys2Proof/Machine/Cycles.lean ====
section
/-! DEFINITION. The cycle count a step returns (spec/70_reset_and_hazards.md R351-R353). Nothing else of the model depends on it. -/

namespace Sys2Proof.Machine

/-- `CycleTable(op, taken)`: an open parameter (R352, D12). -/
abbrev CycleTable := Byte → Bool → Nat

/-- The condition whose outcome is `taken` (R351): only Jcc, Ccc and Rcc have one. -/
def formCondition : Form → Option Cond
  | .jcc cond | .ccc cond | .rcc cond => some cond
  | .nop | .hlt | .ei | .di | .inPort | .outPort | .mov _ _ | .mvi _ | .lxi _ | .lda | .sta | .lhld | .shld | .ldax _
  | .stax _ | .xchg | .xthl | .sphl | .push _ | .pushPSW | .pop _ | .popPSW | .inr _ | .dcr _ | .alu _ _ | .aluImm _
  | .dad _ | .daa | .inx _ | .dcx _ | .rlc | .rrc | .ral | .rar | .cma | .stc | .cmc | .jmp | .call | .ret | .rst _
  | .pchl => none

/-- The outcome of the instruction's condition; true, and ignored, where it has none (R351). -/
def conditionTaken (i : Instr) (f : Flags) : Bool :=
  match formCondition i.form with
  | some cond => condHolds cond f
  | none => true

/-- R352's table by form: the Intel 8080's counts, of which the source pins MVI A, RST 7 and NOP (logs 9, 10). -/
def formCycles (taken : Bool) : Form → Nat
  | .nop => 4
  | .lxi _ => 10
  | .stax _ => 7
  | .inx _ => 5
  | .inr .m => 10
  | .inr _ => 5
  | .dcr .m => 10
  | .dcr _ => 5
  | .mvi .m => 10
  | .mvi _ => 7
  | .rlc => 4
  | .dad _ => 10
  | .ldax _ => 7
  | .dcx _ => 5
  | .rrc => 4
  | .ral => 4
  | .rar => 4
  | .shld => 16
  | .daa => 4
  | .lhld => 16
  | .cma => 4
  | .sta => 13
  | .stc => 4
  | .lda => 13
  | .cmc => 4
  | .mov _ .m => 7
  | .mov .m _ => 7
  | .mov _ _ => 5
  | .hlt => 7
  | .alu _ .m => 7
  | .alu _ _ => 4
  | .rcc _ => if taken then 11 else 5
  | .pop _ => 10
  | .jcc _ => if taken then Config.cyclesJccTaken else Config.cyclesJccNotTaken
  | .jmp => 10
  | .ccc _ => if taken then 17 else 11
  | .push _ => 11
  | .aluImm _ => 7
  | .rst _ => 11
  | .ret => 10
  | .call => 17
  | .outPort => 10
  | .inPort => 10
  | .xthl => 18
  | .pchl => 5
  | .xchg => 4
  | .popPSW => 10
  | .di => 4
  | .pushPSW => 11
  | .sphl => 5
  | .ei => 4

/-- `CycleTable` at its default (R352); a byte that selects nothing has no count. -/
def cycleTable : CycleTable := fun op taken =>
  match dispatch op with
  | some t => formCycles taken t.form
  | none => 0

/-- A step that completes returns its count (R90, R351). -/
def returnCycles (k : Nat) : Result → Result
  | .next s => .next { s with cycles := k }
  | .fault r => .fault r
  | .refused r => .refused r

end Sys2Proof.Machine
end

