-- ==== Sys2Proof/Machine/Flags.lean ====
section
/-! DEFINITION. The flag computations and the ALU operations on the state: spec/40_alu_ops.md R110-R128, and the packed flag byte,
spec/10_state.md R27, R28. -/

namespace Sys2Proof.Machine

/-! ## The packed flag byte -/

/-- `bit(f)` at bit `k` of a byte. -/
def flagBit (f : Bool) (k : Nat) : Byte := (BitVec.ofBool f).setWidth 8 <<< k

/-- `PackFlags()`: S7 Z6 0 H4 0 P2 1 C0 (R27). -/
def packFlags (f : Flags) : Byte :=
  flagBit f.fS 7 ||| flagBit f.fZ 6 ||| flagBit f.fH 4 ||| flagBit f.fP 2 ||| flagBit true 1 ||| flagBit f.fC 0

/-- `UnpackFlags(F)`: bits 5, 3 and 1 are discarded (R28). -/
def unpackFlags (v : Byte) : Flags :=
  { fS := v.getLsbD 7, fZ := v.getLsbD 6, fH := v.getLsbD 4, fP := v.getLsbD 2, fC := v.getLsbD 0 }

/-! ## Parity, sign, zero and half-carry -/

/-- The number of set bits of a byte. -/
def popcount (v : Byte) : Nat := (List.range 8).countP v.getLsbD

/-- `Parity8(v)`: an even number of set bits (R110). -/
def parity8 (v : Byte) : Bool := popcount v % 2 == 0

/-- `SZP(r)` (R111). -/
def Flags.szp (f : Flags) (r : Byte) : Flags :=
  { f with fS := r.getLsbD 7, fZ := r == 0, fP := parity8 r }

/-- `HCIndex(a, v, w)` (R112). -/
def hcIndex (a v : Byte) (w : Word) : Nat :=
  4 * (a.getLsbD 3).toNat + 2 * (v.getLsbD 3).toNat + (w.getLsbD 3).toNat

/-- `ADD_HC` (R113). -/
def addHC : List Bool := [false, false, true, false, true, false, true, true]

/-- `SUB_HCN` (R114). -/
def subHCN : List Bool := [false, true, true, true, false, false, false, true]

/-- fH of an addition (R113). -/
def addHalf (a v : Byte) (w : Word) : Bool := addHC.getD (hcIndex a v w) false

/-- fH of a subtraction (R114). -/
def subHalf (a v : Byte) (w : Word) : Bool := !subHCN.getD (hcIndex a v w) false

/-! ## Accumulator operations -/

/-- `bit(c)` as a 16-bit value. -/
def carryBit (c : Bool) : Word := (BitVec.ofBool c).setWidth 16

/-- The widened sum `a + v + cin` (R116). -/
def wideAdd (a v : Byte) (cin : Bool) : Word := a.setWidth 16 + v.setWidth 16 + carryBit cin

/-- The 16-bit wrapped difference `a - v - bin` (R117). -/
def wideSub (a v : Byte) (bin : Bool) : Word := a.setWidth 16 - v.setWidth 16 - carryBit bin

/-- `AluAdd(v, cin)` (R116). -/
def State.aluAdd (s : State) (v : Byte) (cin : Bool) : State :=
  let w := wideAdd s.a v cin
  { s with a := Word.lo w, flags := { s.flags.szp (Word.lo w) with fH := addHalf s.a v w, fC := w.getLsbD 8 } }

/-- `AluSub(v, bin)` (R117). -/
def State.aluSub (s : State) (v : Byte) (bin : Bool) : State :=
  let w := wideSub s.a v bin
  { s with a := Word.lo w, flags := { s.flags.szp (Word.lo w) with fH := subHalf s.a v w, fC := w.getLsbD 8 } }

/-- `AluCmp(v)`: AluSub with A restored (R118). -/
def State.aluCmp (s : State) (v : Byte) : State := { s.aluSub v false with a := s.a }

/-- `AluAna(v)`: fH is bit 3 of (A before | v) (R119). -/
def State.aluAna (s : State) (v : Byte) : State :=
  { s with a := s.a &&& v, flags := { s.flags.szp (s.a &&& v) with fH := (s.a ||| v).getLsbD 3, fC := false } }

/-- `AluXra(v)` (R120). -/
def State.aluXra (s : State) (v : Byte) : State :=
  { s with a := s.a ^^^ v, flags := { s.flags.szp (s.a ^^^ v) with fH := false, fC := false } }

/-- `AluOra(v)` (R121). -/
def State.aluOra (s : State) (v : Byte) : State :=
  { s with a := s.a ||| v, flags := { s.flags.szp (s.a ||| v) with fH := false, fC := false } }

/-- `AluOp(o, v)` (R128). -/
def State.aluOp (s : State) (o : AluOp) (v : Byte) : State :=
  match o with
  | .add => s.aluAdd v false
  | .adc => s.aluAdd v s.flags.fC
  | .sub => s.aluSub v false
  | .sbb => s.aluSub v s.flags.fC
  | .ana => s.aluAna v
  | .xra => s.aluXra v
  | .ora => s.aluOra v
  | .cmp => s.aluCmp v

/-! ## Increment, decrement, 16-bit add, decimal adjust -/

/-- The flags `IncOp(x)` leaves; fC is not written (R122). -/
def incFlags (f : Flags) (x : Byte) : Flags :=
  { f.szp (Word.lo (wideAdd x 1 false)) with fH := addHalf x 1 (wideAdd x 1 false) }

/-- `IncOp(x)`: the incremented byte, and the flags set (R122). -/
def State.incOp (s : State) (x : Byte) : Byte × State :=
  (Word.lo (wideAdd x 1 false), { s with flags := incFlags s.flags x })

/-- The flags `DecOp(x)` leaves; fC is not written (R123). -/
def decFlags (f : Flags) (x : Byte) : Flags :=
  { f.szp (Word.lo (wideSub x 1 false)) with fH := subHalf x 1 (wideSub x 1 false) }

/-- `DecOp(x)`: the decremented byte, and the flags set (R123). -/
def State.decOp (s : State) (x : Byte) : Byte × State :=
  (Word.lo (wideSub x 1 false), { s with flags := decFlags s.flags x })

/-- `DadOp(v)`: HL gets the 16-bit sum, fC its bit 16, no other flag (R124). -/
def State.dadOp (s : State) (v : Word) : State :=
  let w : BitVec 17 := s.hl.setWidth 17 + v.setWidth 17
  let t := s.setPair .hl (w.setWidth 16)
  { t with flags := { s.flags with fC := w.getLsbD 16 } }

/-- The low-nibble condition of `DaaOp()` (R125). -/
def daaLow (a : Byte) (f : Flags) : Bool := f.fH || decide (9 < a.toNat % 16)

/-- `hc`, the high-nibble decision of `DaaOp()` (R125). -/
def daaHigh (a : Byte) (f : Flags) : Bool :=
  f.fC || decide (9 < a.toNat / 16) || (decide (9 ≤ a.toNat / 16) && decide (9 < a.toNat % 16))

/-- `corr` of `DaaOp()` (R125). -/
def daaCorrection (a : Byte) (f : Flags) : Byte :=
  (if daaLow a f then 0x06 else 0x00) ||| (if daaHigh a f then 0x60 else 0x00)

/-- `DaaOp()`: the correction goes through AluAdd, then fP and fC are written again (R125). -/
def State.daaOp (s : State) : State :=
  let t := s.aluAdd (daaCorrection s.a s.flags) false
  { t with flags := { t.flags with fP := parity8 t.a, fC := daaHigh s.a s.flags } }

end Sys2Proof.Machine
end

