-- ==== Sys2Proof/Machine/Arith.lean ====
section
/-! DEFINITION. The meanings of the arithmetic, logic, rotate and carry instructions (spec/41_arith_logic.md), one definition
for each row of the opcode table, over shared operations. A meaning starts from the state after the instruction's bytes were
fetched (log 20). -/

namespace Sys2Proof.Machine

/-! ## Shared operations -/

/-- `reg8[r] <- IncOp(reg8[r])` (R140, R141): for M one byte read, then one byte write, at HL. -/
def increment (r : Reg8) (s : State) : Result :=
  let t := (s.afterReg8 r).incOp (s.reg8 r)
  .next (t.2.setReg8 r t.1)

/-- `reg8[r] <- DecOp(reg8[r])` (R142, R143). -/
def decrement (r : Reg8) (s : State) : Result :=
  let t := (s.afterReg8 r).decOp (s.reg8 r)
  .next (t.2.setReg8 r t.1)

/-- `AluOp(o, reg8[src])` (R144-R166, R128). -/
def aluWith (o : AluOp) (src : Reg8) (s : State) : Result := .next ((s.afterReg8 src).aluOp o (s.reg8 src))

/-- `bit(f)` as a byte. -/
def bitByte (f : Bool) : Byte := (BitVec.ofBool f).setWidth 8

/-- A rotate's result: the rotated byte and fC, no other flag (R172-R175). -/
def rotate (v : Byte) (carry : Bool) (s : State) : Result := .next { s with a := v, flags := { s.flags with fC := carry } }

/-! ## The instructions -/

/-- INX B (R170). -/
def execInxB (s : State) : Result := .next (s.setPair .bc (s.pair .bc + 1))

/-- INR B (R140). -/
def execInrB (s : State) : Result := increment .b s

/-- DCR B (R142). -/
def execDcrB (s : State) : Result := decrement .b s

/-- RLC (R172). -/
def execRlc (s : State) : Result := rotate (s.a <<< 1 ||| bitByte (s.a.getLsbD 7)) (s.a.getLsbD 7) s

/-- DAD B (R168). -/
def execDadB (s : State) : Result := .next (s.dadOp (s.pair .bc))

/-- DCX B (R171). -/
def execDcxB (s : State) : Result := .next (s.setPair .bc (s.pair .bc - 1))

/-- INR C (R140). -/
def execInrC (s : State) : Result := increment .c s

/-- DCR C (R142). -/
def execDcrC (s : State) : Result := decrement .c s

/-- RRC (R173). -/
def execRrc (s : State) : Result := rotate (s.a >>> 1 ||| bitByte (s.a.getLsbD 0) <<< 7) (s.a.getLsbD 0) s

/-- INX D (R170). -/
def execInxD (s : State) : Result := .next (s.setPair .de (s.pair .de + 1))

/-- INR D (R140). -/
def execInrD (s : State) : Result := increment .d s

/-- DCR D (R142). -/
def execDcrD (s : State) : Result := decrement .d s

/-- RAL (R174). -/
def execRal (s : State) : Result := rotate (s.a <<< 1 ||| bitByte s.flags.fC) (s.a.getLsbD 7) s

/-- DAD D (R168). -/
def execDadD (s : State) : Result := .next (s.dadOp (s.pair .de))

/-- DCX D (R171). -/
def execDcxD (s : State) : Result := .next (s.setPair .de (s.pair .de - 1))

/-- INR E (R140). -/
def execInrE (s : State) : Result := increment .e s

/-- DCR E (R142). -/
def execDcrE (s : State) : Result := decrement .e s

/-- RAR (R175). -/
def execRar (s : State) : Result := rotate (s.a >>> 1 ||| bitByte s.flags.fC <<< 7) (s.a.getLsbD 0) s

/-- INX H (R170). -/
def execInxH (s : State) : Result := .next (s.setPair .hl (s.pair .hl + 1))

/-- INR H (R140). -/
def execInrH (s : State) : Result := increment .h s

/-- DCR H (R142). -/
def execDcrH (s : State) : Result := decrement .h s

/-- DAA (R169). -/
def execDaa (s : State) : Result := .next s.daaOp

/-- DAD H (R168). -/
def execDadH (s : State) : Result := .next (s.dadOp (s.pair .hl))

/-- DCX H (R171). -/
def execDcxH (s : State) : Result := .next (s.setPair .hl (s.pair .hl - 1))

/-- INR L (R140). -/
def execInrL (s : State) : Result := increment .l s

/-- DCR L (R142). -/
def execDcrL (s : State) : Result := decrement .l s

/-- CMA (R176). -/
def execCma (s : State) : Result := .next { s with a := ~~~s.a }

/-- INX SP (R170). -/
def execInxSP (s : State) : Result := .next (s.setPair .sp (s.pair .sp + 1))

/-- INR M (R141). -/
def execInrM (s : State) : Result := increment .m s

/-- DCR M (R143). -/
def execDcrM (s : State) : Result := decrement .m s

/-- STC (R177). -/
def execStc (s : State) : Result := .next { s with flags := { s.flags with fC := true } }

/-- DAD SP (R168). -/
def execDadSP (s : State) : Result := .next (s.dadOp (s.pair .sp))

/-- DCX SP (R171). -/
def execDcxSP (s : State) : Result := .next (s.setPair .sp (s.pair .sp - 1))

/-- INR A (R140). -/
def execInrA (s : State) : Result := increment .a s

/-- DCR A (R142). -/
def execDcrA (s : State) : Result := decrement .a s

/-- CMC (R178). -/
def execCmc (s : State) : Result := .next { s with flags := { s.flags with fC := !s.flags.fC } }

/-- ADD B (R144). -/
def execAddB (s : State) : Result := aluWith .add .b s

/-- ADD C (R144). -/
def execAddC (s : State) : Result := aluWith .add .c s

/-- ADD D (R144). -/
def execAddD (s : State) : Result := aluWith .add .d s

/-- ADD E (R144). -/
def execAddE (s : State) : Result := aluWith .add .e s

/-- ADD H (R144). -/
def execAddH (s : State) : Result := aluWith .add .h s

/-- ADD L (R144). -/
def execAddL (s : State) : Result := aluWith .add .l s

/-- ADD M (R145). -/
def execAddM (s : State) : Result := aluWith .add .m s

/-- ADD A (R144). -/
def execAddA (s : State) : Result := aluWith .add .a s

/-- ADC B (R147). -/
def execAdcB (s : State) : Result := aluWith .adc .b s

/-- ADC C (R147). -/
def execAdcC (s : State) : Result := aluWith .adc .c s

/-- ADC D (R147). -/
def execAdcD (s : State) : Result := aluWith .adc .d s

/-- ADC E (R147). -/
def execAdcE (s : State) : Result := aluWith .adc .e s

/-- ADC H (R147). -/
def execAdcH (s : State) : Result := aluWith .adc .h s

/-- ADC L (R147). -/
def execAdcL (s : State) : Result := aluWith .adc .l s

/-- ADC M (R148). -/
def execAdcM (s : State) : Result := aluWith .adc .m s

/-- ADC A (R147). -/
def execAdcA (s : State) : Result := aluWith .adc .a s

/-- SUB B (R150). -/
def execSubB (s : State) : Result := aluWith .sub .b s

/-- SUB C (R150). -/
def execSubC (s : State) : Result := aluWith .sub .c s

/-- SUB D (R150). -/
def execSubD (s : State) : Result := aluWith .sub .d s

/-- SUB E (R150). -/
def execSubE (s : State) : Result := aluWith .sub .e s

/-- SUB H (R150). -/
def execSubH (s : State) : Result := aluWith .sub .h s

/-- SUB L (R150). -/
def execSubL (s : State) : Result := aluWith .sub .l s

/-- SUB M (R151). -/
def execSubM (s : State) : Result := aluWith .sub .m s

/-- SUB A (R150). -/
def execSubA (s : State) : Result := aluWith .sub .a s

/-- SBB B (R153). -/
def execSbbB (s : State) : Result := aluWith .sbb .b s

/-- SBB C (R153). -/
def execSbbC (s : State) : Result := aluWith .sbb .c s

/-- SBB D (R153). -/
def execSbbD (s : State) : Result := aluWith .sbb .d s

/-- SBB E (R153). -/
def execSbbE (s : State) : Result := aluWith .sbb .e s

/-- SBB H (R153). -/
def execSbbH (s : State) : Result := aluWith .sbb .h s

/-- SBB L (R153). -/
def execSbbL (s : State) : Result := aluWith .sbb .l s

/-- SBB M (R154). -/
def execSbbM (s : State) : Result := aluWith .sbb .m s

/-- SBB A (R153). -/
def execSbbA (s : State) : Result := aluWith .sbb .a s

/-- ANA B (R159). -/
def execAnaB (s : State) : Result := aluWith .ana .b s

/-- ANA C (R159). -/
def execAnaC (s : State) : Result := aluWith .ana .c s

/-- ANA D (R159). -/
def execAnaD (s : State) : Result := aluWith .ana .d s

/-- ANA E (R159). -/
def execAnaE (s : State) : Result := aluWith .ana .e s

/-- ANA H (R159). -/
def execAnaH (s : State) : Result := aluWith .ana .h s

/-- ANA L (R159). -/
def execAnaL (s : State) : Result := aluWith .ana .l s

/-- ANA M (R160). -/
def execAnaM (s : State) : Result := aluWith .ana .m s

/-- ANA A (R159). -/
def execAnaA (s : State) : Result := aluWith .ana .a s

/-- XRA B (R162). -/
def execXraB (s : State) : Result := aluWith .xra .b s

/-- XRA C (R162). -/
def execXraC (s : State) : Result := aluWith .xra .c s

/-- XRA D (R162). -/
def execXraD (s : State) : Result := aluWith .xra .d s

/-- XRA E (R162). -/
def execXraE (s : State) : Result := aluWith .xra .e s

/-- XRA H (R162). -/
def execXraH (s : State) : Result := aluWith .xra .h s

/-- XRA L (R162). -/
def execXraL (s : State) : Result := aluWith .xra .l s

/-- XRA M (R163). -/
def execXraM (s : State) : Result := aluWith .xra .m s

/-- XRA A (R162). -/
def execXraA (s : State) : Result := aluWith .xra .a s

/-- ORA B (R165). -/
def execOraB (s : State) : Result := aluWith .ora .b s

/-- ORA C (R165). -/
def execOraC (s : State) : Result := aluWith .ora .c s

/-- ORA D (R165). -/
def execOraD (s : State) : Result := aluWith .ora .d s

/-- ORA E (R165). -/
def execOraE (s : State) : Result := aluWith .ora .e s

/-- ORA H (R165). -/
def execOraH (s : State) : Result := aluWith .ora .h s

/-- ORA L (R165). -/
def execOraL (s : State) : Result := aluWith .ora .l s

/-- ORA M (R166). -/
def execOraM (s : State) : Result := aluWith .ora .m s

/-- ORA A (R165). -/
def execOraA (s : State) : Result := aluWith .ora .a s

/-- CMP B (R156). -/
def execCmpB (s : State) : Result := aluWith .cmp .b s

/-- CMP C (R156). -/
def execCmpC (s : State) : Result := aluWith .cmp .c s

/-- CMP D (R156). -/
def execCmpD (s : State) : Result := aluWith .cmp .d s

/-- CMP E (R156). -/
def execCmpE (s : State) : Result := aluWith .cmp .e s

/-- CMP H (R156). -/
def execCmpH (s : State) : Result := aluWith .cmp .h s

/-- CMP L (R156). -/
def execCmpL (s : State) : Result := aluWith .cmp .l s

/-- CMP M (R157). -/
def execCmpM (s : State) : Result := aluWith .cmp .m s

/-- CMP A (R156). -/
def execCmpA (s : State) : Result := aluWith .cmp .a s

/-- ADI d8 (R146). -/
def execAdi (v : Byte) (s : State) : Result := .next (s.aluOp .add v)

/-- ACI d8 (R149). -/
def execAci (v : Byte) (s : State) : Result := .next (s.aluOp .adc v)

/-- SUI d8 (R152). -/
def execSui (v : Byte) (s : State) : Result := .next (s.aluOp .sub v)

/-- SBI d8 (R155). -/
def execSbi (v : Byte) (s : State) : Result := .next (s.aluOp .sbb v)

/-- ANI d8 (R161). -/
def execAni (v : Byte) (s : State) : Result := .next (s.aluOp .ana v)

/-- XRI d8 (R164). -/
def execXri (v : Byte) (s : State) : Result := .next (s.aluOp .xra v)

/-- ORI d8 (R167). -/
def execOri (v : Byte) (s : State) : Result := .next (s.aluOp .ora v)

/-- CPI d8 (R158). -/
def execCpi (v : Byte) (s : State) : Result := .next (s.aluOp .cmp v)

end Sys2Proof.Machine
end

