-- ==== Sys2Proof/Machine/Control.lean ====
section
/-! DEFINITION. The meanings of the control-transfer instructions (spec/43_control.md), one definition for each row of the
opcode table, over shared operations. A meaning starts from the state after the instruction's bytes were fetched: the PC it
pushes is the address of the next instruction (D14; logs 12, 20). -/

namespace Sys2Proof.Machine

/-! ## Shared operations -/

/-- `Push(PC); PC <- a` (R242, R246). -/
def State.callTo (s : State) (a : Word) : State := { s.push s.pc with pc := a }

/-- `PC <- Pop()` (R244). -/
def State.returnFrom (s : State) : State := { s.pop.2 with pc := s.pop.1 }

/-- `if cond then PC <- a` (R241). -/
def jumpIf (cond : Cond) (a : Word) (s : State) : Result :=
  .next (if condHolds cond s.flags then { s with pc := a } else s)

/-- `if cond then { Push(PC); PC <- a }` (R243). -/
def callIf (cond : Cond) (a : Word) (s : State) : Result :=
  .next (if condHolds cond s.flags then s.callTo a else s)

/-- `if cond then PC <- Pop()` (R245). -/
def returnIf (cond : Cond) (s : State) : Result :=
  .next (if condHolds cond s.flags then s.returnFrom else s)

/-- `zext_16(n) * 8` (R89, R246). -/
def restartVector (n : BitVec 3) : Word := n.setWidth 16 * 8

/-- `Push(PC); PC <- zext_16(n) * 8` (R246). -/
def restart (n : BitVec 3) (s : State) : Result := .next (s.callTo (restartVector n))

/-! ## The instructions -/

/-- RNZ (R245). -/
def execRnz (s : State) : Result := returnIf .nz s

/-- JNZ a16 (R241). -/
def execJnz (a : Word) (s : State) : Result := jumpIf .nz a s

/-- JMP a16 (R240). -/
def execJmp (a : Word) (s : State) : Result := .next { s with pc := a }

/-- CNZ a16 (R243). -/
def execCnz (a : Word) (s : State) : Result := callIf .nz a s

/-- RST 0 (R246). -/
def execRst0 (s : State) : Result := restart 0 s

/-- RZ (R245). -/
def execRz (s : State) : Result := returnIf .z s

/-- RET (R244). -/
def execRet (s : State) : Result := .next s.returnFrom

/-- JZ a16 (R241). -/
def execJz (a : Word) (s : State) : Result := jumpIf .z a s

/-- JMP a16, the byte 0xCB that stands for 0xC3 (R98) (R240). -/
def execJmpCB (a : Word) (s : State) : Result := .next { s with pc := a }

/-- CZ a16 (R243). -/
def execCz (a : Word) (s : State) : Result := callIf .z a s

/-- CALL a16 (R242). -/
def execCall (a : Word) (s : State) : Result := .next (s.callTo a)

/-- RST 1 (R246). -/
def execRst1 (s : State) : Result := restart 1 s

/-- RNC (R245). -/
def execRnc (s : State) : Result := returnIf .nc s

/-- JNC a16 (R241). -/
def execJnc (a : Word) (s : State) : Result := jumpIf .nc a s

/-- CNC a16 (R243). -/
def execCnc (a : Word) (s : State) : Result := callIf .nc a s

/-- RST 2 (R246). -/
def execRst2 (s : State) : Result := restart 2 s

/-- RC (R245). -/
def execRc (s : State) : Result := returnIf .c s

/-- RET, the byte 0xD9 that stands for 0xC9 (R98) (R244). -/
def execRetD9 (s : State) : Result := .next s.returnFrom

/-- JC a16 (R241). -/
def execJc (a : Word) (s : State) : Result := jumpIf .c a s

/-- CC a16 (R243). -/
def execCc (a : Word) (s : State) : Result := callIf .c a s

/-- CALL a16, the byte 0xDD that stands for 0xCD (R98) (R242). -/
def execCallDD (a : Word) (s : State) : Result := .next (s.callTo a)

/-- RST 3 (R246). -/
def execRst3 (s : State) : Result := restart 3 s

/-- RPO (R245). -/
def execRpo (s : State) : Result := returnIf .po s

/-- JPO a16 (R241). -/
def execJpo (a : Word) (s : State) : Result := jumpIf .po a s

/-- CPO a16 (R243). -/
def execCpo (a : Word) (s : State) : Result := callIf .po a s

/-- RST 4 (R246). -/
def execRst4 (s : State) : Result := restart 4 s

/-- RPE (R245). -/
def execRpe (s : State) : Result := returnIf .pe s

/-- PCHL (R247). -/
def execPchl (s : State) : Result := .next { s with pc := s.hl }

/-- JPE a16 (R241). -/
def execJpe (a : Word) (s : State) : Result := jumpIf .pe a s

/-- CPE a16 (R243). -/
def execCpe (a : Word) (s : State) : Result := callIf .pe a s

/-- CALL a16, the byte 0xED that stands for 0xCD (R98) (R242). -/
def execCallED (a : Word) (s : State) : Result := .next (s.callTo a)

/-- RST 5 (R246). -/
def execRst5 (s : State) : Result := restart 5 s

/-- RP (R245). -/
def execRp (s : State) : Result := returnIf .p s

/-- JP a16 (R241). -/
def execJp (a : Word) (s : State) : Result := jumpIf .p a s

/-- CP a16 (R243). -/
def execCp (a : Word) (s : State) : Result := callIf .p a s

/-- RST 6 (R246). -/
def execRst6 (s : State) : Result := restart 6 s

/-- RM (R245). -/
def execRm (s : State) : Result := returnIf .m s

/-- JM a16 (R241). -/
def execJm (a : Word) (s : State) : Result := jumpIf .m a s

/-- CM a16 (R243). -/
def execCm (a : Word) (s : State) : Result := callIf .m a s

/-- CALL a16, the byte 0xFD that stands for 0xCD (R98) (R242). -/
def execCallFD (a : Word) (s : State) : Result := .next (s.callTo a)

/-- RST 7 (R246). -/
def execRst7 (s : State) : Result := restart 7 s

end Sys2Proof.Machine
end

