-- ==== Sys2Proof/Machine/System.lean ====
section
/-! DEFINITION. The meanings of the no-operation, halt, interrupt-flag and port instructions (spec/44_system.md), one definition
for each row of the opcode table. A meaning starts from the state after the instruction's bytes were fetched (log 20). -/

namespace Sys2Proof.Machine

/-! ## The instructions -/

/-- NOP (R270). -/
def execNop (s : State) : Result := .next s

/-- NOP, the byte 0x08 that stands for 0x00 (R98) (R270). -/
def execNop08 (s : State) : Result := .next s

/-- NOP, the byte 0x10 that stands for 0x00 (R98) (R270). -/
def execNop10 (s : State) : Result := .next s

/-- NOP, the byte 0x18 that stands for 0x00 (R98) (R270). -/
def execNop18 (s : State) : Result := .next s

/-- NOP, the byte 0x20 that stands for 0x00 (R98) (R270). -/
def execNop20 (s : State) : Result := .next s

/-- NOP, the byte 0x28 that stands for 0x00 (R98) (R270). -/
def execNop28 (s : State) : Result := .next s

/-- NOP, the byte 0x30 that stands for 0x00 (R98) (R270). -/
def execNop30 (s : State) : Result := .next s

/-- NOP, the byte 0x38 that stands for 0x00 (R98) (R270). -/
def execNop38 (s : State) : Result := .next s

/-- HLT (R271). -/
def execHlt (s : State) : Result := .next { s with pc := s.pc - 1 }

/-- OUT p8 (R275). -/
def execOutPort (p : Byte) (s : State) : Result := .next (s.portOutput p s.a)

/-- IN p8 (R274). -/
def execInPort (p : Byte) (s : State) : Result :=
  let t := s.portInput p
  .next { t.2 with a := t.1 }

/-- DI (R273). -/
def execDi (s : State) : Result := .next (State.notifyIff { s with iff := false } false)

/-- EI (R272). -/
def execEi (s : State) : Result := .next (State.notifyIff { s with iff := true } true)

end Sys2Proof.Machine
end

