-- ==== Sys2Proof/Machine/Transfer.lean ====
section
/-! DEFINITION. The meanings of the data transfer and stack instructions (spec/42_data_transfer.md), one definition for each row
of the opcode table, over shared operations. A meaning starts from the state after the instruction's bytes were fetched: PC is
the address after them (spec/30_encoding.md R90, spec/20_memory.md R70; log 20). -/

namespace Sys2Proof.Machine

/-! ## Shared operations -/

/-- `reg8[dst] <- reg8[src]` (R200-R202): the source is read before the destination is written. -/
def moveReg8 (dst src : Reg8) (s : State) : Result := .next ((s.afterReg8 src).setReg8 dst (s.reg8 src))

/-- `reg8[dst] <- v` (R203, R204). -/
def moveImm (dst : Reg8) (v : Byte) (s : State) : Result := .next (s.setReg8 dst v)

/-- `rp[p] <- v` (R205). -/
def loadPairImm (p : Pair) (v : Word) (s : State) : Result := .next (s.setPair p v)

/-- `A <- MemRead(a, 1)` (R206, R210). -/
def loadA (a : Word) (s : State) : Result :=
  let t := s.memReadByte a
  .next { t.2 with a := t.1 }

/-- `MemWrite(a, 1, A)` (R207, R211). -/
def storeA (a : Word) (s : State) : Result := .next (s.memWriteByte a s.a)

/-- `HL <- MemRead(a, 2)` (R208). -/
def loadHL (a : Word) (s : State) : Result :=
  let t := s.memReadWord a
  .next (t.2.setPair .hl t.1)

/-- `MemWrite(a, 2, HL)` (R209). -/
def storeHL (a : Word) (s : State) : Result := .next (s.memWriteWord a s.hl)

/-- `Push(rp[p])` (R215). -/
def pushPair (p : Pair) (s : State) : Result := .next (s.push (s.pair p))

/-- `rp[p] <- Pop()` (R217). -/
def popPair (p : Pair) (s : State) : Result :=
  let t := s.pop
  .next (t.2.setPair p t.1)

/-! ## The instructions -/

/-- LXI B,d16 (R205). -/
def execLxiB (v : Word) (s : State) : Result := loadPairImm .bc v s

/-- STAX B (R211). -/
def execStaxB (s : State) : Result := storeA (s.pair .bc) s

/-- MVI B,d8 (R203). -/
def execMviB (v : Byte) (s : State) : Result := moveImm .b v s

/-- LDAX B (R210). -/
def execLdaxB (s : State) : Result := loadA (s.pair .bc) s

/-- MVI C,d8 (R203). -/
def execMviC (v : Byte) (s : State) : Result := moveImm .c v s

/-- LXI D,d16 (R205). -/
def execLxiD (v : Word) (s : State) : Result := loadPairImm .de v s

/-- STAX D (R211). -/
def execStaxD (s : State) : Result := storeA (s.pair .de) s

/-- MVI D,d8 (R203). -/
def execMviD (v : Byte) (s : State) : Result := moveImm .d v s

/-- LDAX D (R210). -/
def execLdaxD (s : State) : Result := loadA (s.pair .de) s

/-- MVI E,d8 (R203). -/
def execMviE (v : Byte) (s : State) : Result := moveImm .e v s

/-- LXI H,d16 (R205). -/
def execLxiH (v : Word) (s : State) : Result := loadPairImm .hl v s

/-- SHLD a16 (R209). -/
def execShld (a : Word) (s : State) : Result := storeHL a s

/-- MVI H,d8 (R203). -/
def execMviH (v : Byte) (s : State) : Result := moveImm .h v s

/-- LHLD a16 (R208). -/
def execLhld (a : Word) (s : State) : Result := loadHL a s

/-- MVI L,d8 (R203). -/
def execMviL (v : Byte) (s : State) : Result := moveImm .l v s

/-- LXI SP,d16 (R205). -/
def execLxiSP (v : Word) (s : State) : Result := loadPairImm .sp v s

/-- STA a16 (R207). -/
def execSta (a : Word) (s : State) : Result := storeA a s

/-- MVI M,d8 (R204). -/
def execMviM (v : Byte) (s : State) : Result := moveImm .m v s

/-- LDA a16 (R206). -/
def execLda (a : Word) (s : State) : Result := loadA a s

/-- MVI A,d8 (R203). -/
def execMviA (v : Byte) (s : State) : Result := moveImm .a v s

/-- MOV B,B (R200). -/
def execMovBB (s : State) : Result := moveReg8 .b .b s

/-- MOV B,C (R200). -/
def execMovBC (s : State) : Result := moveReg8 .b .c s

/-- MOV B,D (R200). -/
def execMovBD (s : State) : Result := moveReg8 .b .d s

/-- MOV B,E (R200). -/
def execMovBE (s : State) : Result := moveReg8 .b .e s

/-- MOV B,H (R200). -/
def execMovBH (s : State) : Result := moveReg8 .b .h s

/-- MOV B,L (R200). -/
def execMovBL (s : State) : Result := moveReg8 .b .l s

/-- MOV B,M (R201). -/
def execMovBM (s : State) : Result := moveReg8 .b .m s

/-- MOV B,A (R200). -/
def execMovBA (s : State) : Result := moveReg8 .b .a s

/-- MOV C,B (R200). -/
def execMovCB (s : State) : Result := moveReg8 .c .b s

/-- MOV C,C (R200). -/
def execMovCC (s : State) : Result := moveReg8 .c .c s

/-- MOV C,D (R200). -/
def execMovCD (s : State) : Result := moveReg8 .c .d s

/-- MOV C,E (R200). -/
def execMovCE (s : State) : Result := moveReg8 .c .e s

/-- MOV C,H (R200). -/
def execMovCH (s : State) : Result := moveReg8 .c .h s

/-- MOV C,L (R200). -/
def execMovCL (s : State) : Result := moveReg8 .c .l s

/-- MOV C,M (R201). -/
def execMovCM (s : State) : Result := moveReg8 .c .m s

/-- MOV C,A (R200). -/
def execMovCA (s : State) : Result := moveReg8 .c .a s

/-- MOV D,B (R200). -/
def execMovDB (s : State) : Result := moveReg8 .d .b s

/-- MOV D,C (R200). -/
def execMovDC (s : State) : Result := moveReg8 .d .c s

/-- MOV D,D (R200). -/
def execMovDD (s : State) : Result := moveReg8 .d .d s

/-- MOV D,E (R200). -/
def execMovDE (s : State) : Result := moveReg8 .d .e s

/-- MOV D,H (R200). -/
def execMovDH (s : State) : Result := moveReg8 .d .h s

/-- MOV D,L (R200). -/
def execMovDL (s : State) : Result := moveReg8 .d .l s

/-- MOV D,M (R201). -/
def execMovDM (s : State) : Result := moveReg8 .d .m s

/-- MOV D,A (R200). -/
def execMovDA (s : State) : Result := moveReg8 .d .a s

/-- MOV E,B (R200). -/
def execMovEB (s : State) : Result := moveReg8 .e .b s

/-- MOV E,C (R200). -/
def execMovEC (s : State) : Result := moveReg8 .e .c s

/-- MOV E,D (R200). -/
def execMovED (s : State) : Result := moveReg8 .e .d s

/-- MOV E,E (R200). -/
def execMovEE (s : State) : Result := moveReg8 .e .e s

/-- MOV E,H (R200). -/
def execMovEH (s : State) : Result := moveReg8 .e .h s

/-- MOV E,L (R200). -/
def execMovEL (s : State) : Result := moveReg8 .e .l s

/-- MOV E,M (R201). -/
def execMovEM (s : State) : Result := moveReg8 .e .m s

/-- MOV E,A (R200). -/
def execMovEA (s : State) : Result := moveReg8 .e .a s

/-- MOV H,B (R200). -/
def execMovHB (s : State) : Result := moveReg8 .h .b s

/-- MOV H,C (R200). -/
def execMovHC (s : State) : Result := moveReg8 .h .c s

/-- MOV H,D (R200). -/
def execMovHD (s : State) : Result := moveReg8 .h .d s

/-- MOV H,E (R200). -/
def execMovHE (s : State) : Result := moveReg8 .h .e s

/-- MOV H,H (R200). -/
def execMovHH (s : State) : Result := moveReg8 .h .h s

/-- MOV H,L (R200). -/
def execMovHL (s : State) : Result := moveReg8 .h .l s

/-- MOV H,M (R201). -/
def execMovHM (s : State) : Result := moveReg8 .h .m s

/-- MOV H,A (R200). -/
def execMovHA (s : State) : Result := moveReg8 .h .a s

/-- MOV L,B (R200). -/
def execMovLB (s : State) : Result := moveReg8 .l .b s

/-- MOV L,C (R200). -/
def execMovLC (s : State) : Result := moveReg8 .l .c s

/-- MOV L,D (R200). -/
def execMovLD (s : State) : Result := moveReg8 .l .d s

/-- MOV L,E (R200). -/
def execMovLE (s : State) : Result := moveReg8 .l .e s

/-- MOV L,H (R200). -/
def execMovLH (s : State) : Result := moveReg8 .l .h s

/-- MOV L,L (R200). -/
def execMovLL (s : State) : Result := moveReg8 .l .l s

/-- MOV L,M (R201). -/
def execMovLM (s : State) : Result := moveReg8 .l .m s

/-- MOV L,A (R200). -/
def execMovLA (s : State) : Result := moveReg8 .l .a s

/-- MOV M,B (R202). -/
def execMovMB (s : State) : Result := moveReg8 .m .b s

/-- MOV M,C (R202). -/
def execMovMC (s : State) : Result := moveReg8 .m .c s

/-- MOV M,D (R202). -/
def execMovMD (s : State) : Result := moveReg8 .m .d s

/-- MOV M,E (R202). -/
def execMovME (s : State) : Result := moveReg8 .m .e s

/-- MOV M,H (R202). -/
def execMovMH (s : State) : Result := moveReg8 .m .h s

/-- MOV M,L (R202). -/
def execMovML (s : State) : Result := moveReg8 .m .l s

/-- MOV M,A (R202). -/
def execMovMA (s : State) : Result := moveReg8 .m .a s

/-- MOV A,B (R200). -/
def execMovAB (s : State) : Result := moveReg8 .a .b s

/-- MOV A,C (R200). -/
def execMovAC (s : State) : Result := moveReg8 .a .c s

/-- MOV A,D (R200). -/
def execMovAD (s : State) : Result := moveReg8 .a .d s

/-- MOV A,E (R200). -/
def execMovAE (s : State) : Result := moveReg8 .a .e s

/-- MOV A,H (R200). -/
def execMovAH (s : State) : Result := moveReg8 .a .h s

/-- MOV A,L (R200). -/
def execMovAL (s : State) : Result := moveReg8 .a .l s

/-- MOV A,M (R201). -/
def execMovAM (s : State) : Result := moveReg8 .a .m s

/-- MOV A,A (R200). -/
def execMovAA (s : State) : Result := moveReg8 .a .a s

/-- POP B (R217). -/
def execPopB (s : State) : Result := popPair .bc s

/-- PUSH B (R215). -/
def execPushB (s : State) : Result := pushPair .bc s

/-- POP D (R217). -/
def execPopD (s : State) : Result := popPair .de s

/-- PUSH D (R215). -/
def execPushD (s : State) : Result := pushPair .de s

/-- POP H (R217). -/
def execPopH (s : State) : Result := popPair .hl s

/-- XTHL (R213). -/
def execXthl (s : State) : Result :=
  let t := s.memReadWord s.sp
  .next ((t.2.memWriteWord s.sp s.hl).setPair .hl t.1)

/-- PUSH H (R215). -/
def execPushH (s : State) : Result := pushPair .hl s

/-- XCHG (R212). -/
def execXchg (s : State) : Result := .next ((s.setPair .de s.hl).setPair .hl s.de)

/-- POP PSW (R218). -/
def execPopPSW (s : State) : Result :=
  let t := s.pop
  .next { t.2 with a := Word.hi t.1, flags := unpackFlags (Word.lo t.1) }

/-- PUSH PSW (R216). -/
def execPushPSW (s : State) : Result := .next (s.push (Word.ofBytes s.a (packFlags s.flags)))

/-- SPHL (R214). -/
def execSphl (s : State) : Result := .next { s with sp := s.hl }

end Sys2Proof.Machine
end

