-- ==== Sys2Proof/Machine/Dispatch.lean ====
section
/-! DEFINITION. One arm for each instruction. -/

namespace Sys2Proof.Machine

def exec (i : Instr) (s : State) : Host.Outcome State Fault Refusal :=
  match i with
  -- spec/42_data_transfer.md
  | .lxiB v => Sys2Proof.Machine.execLxiB v s
  | .staxB => Sys2Proof.Machine.execStaxB s
  | .mviB v => Sys2Proof.Machine.execMviB v s
  | .ldaxB => Sys2Proof.Machine.execLdaxB s
  | .mviC v => Sys2Proof.Machine.execMviC v s
  | .lxiD v => Sys2Proof.Machine.execLxiD v s
  | .staxD => Sys2Proof.Machine.execStaxD s
  | .mviD v => Sys2Proof.Machine.execMviD v s
  | .ldaxD => Sys2Proof.Machine.execLdaxD s
  | .mviE v => Sys2Proof.Machine.execMviE v s
  | .lxiH v => Sys2Proof.Machine.execLxiH v s
  | .shld a => Sys2Proof.Machine.execShld a s
  | .mviH v => Sys2Proof.Machine.execMviH v s
  | .lhld a => Sys2Proof.Machine.execLhld a s
  | .mviL v => Sys2Proof.Machine.execMviL v s
  | .lxiSP v => Sys2Proof.Machine.execLxiSP v s
  | .sta a => Sys2Proof.Machine.execSta a s
  | .mviM v => Sys2Proof.Machine.execMviM v s
  | .lda a => Sys2Proof.Machine.execLda a s
  | .mviA v => Sys2Proof.Machine.execMviA v s
  | .movBB => Sys2Proof.Machine.execMovBB s
  | .movBC => Sys2Proof.Machine.execMovBC s
  | .movBD => Sys2Proof.Machine.execMovBD s
  | .movBE => Sys2Proof.Machine.execMovBE s
  | .movBH => Sys2Proof.Machine.execMovBH s
  | .movBL => Sys2Proof.Machine.execMovBL s
  | .movBM => Sys2Proof.Machine.execMovBM s
  | .movBA => Sys2Proof.Machine.execMovBA s
  | .movCB => Sys2Proof.Machine.execMovCB s
  | .movCC => Sys2Proof.Machine.execMovCC s
  | .movCD => Sys2Proof.Machine.execMovCD s
  | .movCE => Sys2Proof.Machine.execMovCE s
  | .movCH => Sys2Proof.Machine.execMovCH s
  | .movCL => Sys2Proof.Machine.execMovCL s
  | .movCM => Sys2Proof.Machine.execMovCM s
  | .movCA => Sys2Proof.Machine.execMovCA s
  | .movDB => Sys2Proof.Machine.execMovDB s
  | .movDC => Sys2Proof.Machine.execMovDC s
  | .movDD => Sys2Proof.Machine.execMovDD s
  | .movDE => Sys2Proof.Machine.execMovDE s
  | .movDH => Sys2Proof.Machine.execMovDH s
  | .movDL => Sys2Proof.Machine.execMovDL s
  | .movDM => Sys2Proof.Machine.execMovDM s
  | .movDA => Sys2Proof.Machine.execMovDA s
  | .movEB => Sys2Proof.Machine.execMovEB s
  | .movEC => Sys2Proof.Machine.execMovEC s
  | .movED => Sys2Proof.Machine.execMovED s
  | .movEE => Sys2Proof.Machine.execMovEE s
  | .movEH => Sys2Proof.Machine.execMovEH s
  | .movEL => Sys2Proof.Machine.execMovEL s
  | .movEM => Sys2Proof.Machine.execMovEM s
  | .movEA => Sys2Proof.Machine.execMovEA s
  | .movHB => Sys2Proof.Machine.execMovHB s
  | .movHC => Sys2Proof.Machine.execMovHC s
  | .movHD => Sys2Proof.Machine.execMovHD s
  | .movHE => Sys2Proof.Machine.execMovHE s
  | .movHH => Sys2Proof.Machine.execMovHH s
  | .movHL => Sys2Proof.Machine.execMovHL s
  | .movHM => Sys2Proof.Machine.execMovHM s
  | .movHA => Sys2Proof.Machine.execMovHA s
  | .movLB => Sys2Proof.Machine.execMovLB s
  | .movLC => Sys2Proof.Machine.execMovLC s
  | .movLD => Sys2Proof.Machine.execMovLD s
  | .movLE => Sys2Proof.Machine.execMovLE s
  | .movLH => Sys2Proof.Machine.execMovLH s
  | .movLL => Sys2Proof.Machine.execMovLL s
  | .movLM => Sys2Proof.Machine.execMovLM s
  | .movLA => Sys2Proof.Machine.execMovLA s
  | .movMB => Sys2Proof.Machine.execMovMB s
  | .movMC => Sys2Proof.Machine.execMovMC s
  | .movMD => Sys2Proof.Machine.execMovMD s
  | .movME => Sys2Proof.Machine.execMovME s
  | .movMH => Sys2Proof.Machine.execMovMH s
  | .movML => Sys2Proof.Machine.execMovML s
  | .movMA => Sys2Proof.Machine.execMovMA s
  | .movAB => Sys2Proof.Machine.execMovAB s
  | .movAC => Sys2Proof.Machine.execMovAC s
  | .movAD => Sys2Proof.Machine.execMovAD s
  | .movAE => Sys2Proof.Machine.execMovAE s
  | .movAH => Sys2Proof.Machine.execMovAH s
  | .movAL => Sys2Proof.Machine.execMovAL s
  | .movAM => Sys2Proof.Machine.execMovAM s
  | .movAA => Sys2Proof.Machine.execMovAA s
  | .popB => Sys2Proof.Machine.execPopB s
  | .pushB => Sys2Proof.Machine.execPushB s
  | .popD => Sys2Proof.Machine.execPopD s
  | .pushD => Sys2Proof.Machine.execPushD s
  | .popH => Sys2Proof.Machine.execPopH s
  | .xthl => Sys2Proof.Machine.execXthl s
  | .pushH => Sys2Proof.Machine.execPushH s
  | .xchg => Sys2Proof.Machine.execXchg s
  | .popPSW => Sys2Proof.Machine.execPopPSW s
  | .pushPSW => Sys2Proof.Machine.execPushPSW s
  | .sphl => Sys2Proof.Machine.execSphl s
  -- spec/41_arith_logic.md
  | .inxB => Sys2Proof.Machine.execInxB s
  | .inrB => Sys2Proof.Machine.execInrB s
  | .dcrB => Sys2Proof.Machine.execDcrB s
  | .rlc => Sys2Proof.Machine.execRlc s
  | .dadB => Sys2Proof.Machine.execDadB s
  | .dcxB => Sys2Proof.Machine.execDcxB s
  | .inrC => Sys2Proof.Machine.execInrC s
  | .dcrC => Sys2Proof.Machine.execDcrC s
  | .rrc => Sys2Proof.Machine.execRrc s
  | .inxD => Sys2Proof.Machine.execInxD s
  | .inrD => Sys2Proof.Machine.execInrD s
  | .dcrD => Sys2Proof.Machine.execDcrD s
  | .ral => Sys2Proof.Machine.execRal s
  | .dadD => Sys2Proof.Machine.execDadD s
  | .dcxD => Sys2Proof.Machine.execDcxD s
  | .inrE => Sys2Proof.Machine.execInrE s
  | .dcrE => Sys2Proof.Machine.execDcrE s
  | .rar => Sys2Proof.Machine.execRar s
  | .inxH => Sys2Proof.Machine.execInxH s
  | .inrH => Sys2Proof.Machine.execInrH s
  | .dcrH => Sys2Proof.Machine.execDcrH s
  | .daa => Sys2Proof.Machine.execDaa s
  | .dadH => Sys2Proof.Machine.execDadH s
  | .dcxH => Sys2Proof.Machine.execDcxH s
  | .inrL => Sys2Proof.Machine.execInrL s
  | .dcrL => Sys2Proof.Machine.execDcrL s
  | .cma => Sys2Proof.Machine.execCma s
  | .inxSP => Sys2Proof.Machine.execInxSP s
  | .inrM => Sys2Proof.Machine.execInrM s
  | .dcrM => Sys2Proof.Machine.execDcrM s
  | .stc => Sys2Proof.Machine.execStc s
  | .dadSP => Sys2Proof.Machine.execDadSP s
  | .dcxSP => Sys2Proof.Machine.execDcxSP s
  | .inrA => Sys2Proof.Machine.execInrA s
  | .dcrA => Sys2Proof.Machine.execDcrA s
  | .cmc => Sys2Proof.Machine.execCmc s
  | .addB => Sys2Proof.Machine.execAddB s
  | .addC => Sys2Proof.Machine.execAddC s
  | .addD => Sys2Proof.Machine.execAddD s
  | .addE => Sys2Proof.Machine.execAddE s
  | .addH => Sys2Proof.Machine.execAddH s
  | .addL => Sys2Proof.Machine.execAddL s
  | .addM => Sys2Proof.Machine.execAddM s
  | .addA => Sys2Proof.Machine.execAddA s
  | .adcB => Sys2Proof.Machine.execAdcB s
  | .adcC => Sys2Proof.Machine.execAdcC s
  | .adcD => Sys2Proof.Machine.execAdcD s
  | .adcE => Sys2Proof.Machine.execAdcE s
  | .adcH => Sys2Proof.Machine.execAdcH s
  | .adcL => Sys2Proof.Machine.execAdcL s
  | .adcM => Sys2Proof.Machine.execAdcM s
  | .adcA => Sys2Proof.Machine.execAdcA s
  | .subB => Sys2Proof.Machine.execSubB s
  | .subC => Sys2Proof.Machine.execSubC s
  | .subD => Sys2Proof.Machine.execSubD s
  | .subE => Sys2Proof.Machine.execSubE s
  | .subH => Sys2Proof.Machine.execSubH s
  | .subL => Sys2Proof.Machine.execSubL s
  | .subM => Sys2Proof.Machine.execSubM s
  | .subA => Sys2Proof.Machine.execSubA s
  | .sbbB => Sys2Proof.Machine.execSbbB s
  | .sbbC => Sys2Proof.Machine.execSbbC s
  | .sbbD => Sys2Proof.Machine.execSbbD s
  | .sbbE => Sys2Proof.Machine.execSbbE s
  | .sbbH => Sys2Proof.Machine.execSbbH s
  | .sbbL => Sys2Proof.Machine.execSbbL s
  | .sbbM => Sys2Proof.Machine.execSbbM s
  | .sbbA => Sys2Proof.Machine.execSbbA s
  | .anaB => Sys2Proof.Machine.execAnaB s
  | .anaC => Sys2Proof.Machine.execAnaC s
  | .anaD => Sys2Proof.Machine.execAnaD s
  | .anaE => Sys2Proof.Machine.execAnaE s
  | .anaH => Sys2Proof.Machine.execAnaH s
  | .anaL => Sys2Proof.Machine.execAnaL s
  | .anaM => Sys2Proof.Machine.execAnaM s
  | .anaA => Sys2Proof.Machine.execAnaA s
  | .xraB => Sys2Proof.Machine.execXraB s
  | .xraC => Sys2Proof.Machine.execXraC s
  | .xraD => Sys2Proof.Machine.execXraD s
  | .xraE => Sys2Proof.Machine.execXraE s
  | .xraH => Sys2Proof.Machine.execXraH s
  | .xraL => Sys2Proof.Machine.execXraL s
  | .xraM => Sys2Proof.Machine.execXraM s
  | .xraA => Sys2Proof.Machine.execXraA s
  | .oraB => Sys2Proof.Machine.execOraB s
  | .oraC => Sys2Proof.Machine.execOraC s
  | .oraD => Sys2Proof.Machine.execOraD s
  | .oraE => Sys2Proof.Machine.execOraE s
  | .oraH => Sys2Proof.Machine.execOraH s
  | .oraL => Sys2Proof.Machine.execOraL s
  | .oraM => Sys2Proof.Machine.execOraM s
  | .oraA => Sys2Proof.Machine.execOraA s
  | .cmpB => Sys2Proof.Machine.execCmpB s
  | .cmpC => Sys2Proof.Machine.execCmpC s
  | .cmpD => Sys2Proof.Machine.execCmpD s
  | .cmpE => Sys2Proof.Machine.execCmpE s
  | .cmpH => Sys2Proof.Machine.execCmpH s
  | .cmpL => Sys2Proof.Machine.execCmpL s
  | .cmpM => Sys2Proof.Machine.execCmpM s
  | .cmpA => Sys2Proof.Machine.execCmpA s
  | .adi v => Sys2Proof.Machine.execAdi v s
  | .aci v => Sys2Proof.Machine.execAci v s
  | .sui v => Sys2Proof.Machine.execSui v s
  | .sbi v => Sys2Proof.Machine.execSbi v s
  | .ani v => Sys2Proof.Machine.execAni v s
  | .xri v => Sys2Proof.Machine.execXri v s
  | .ori v => Sys2Proof.Machine.execOri v s
  | .cpi v => Sys2Proof.Machine.execCpi v s
  -- spec/43_control.md
  | .rnz => Sys2Proof.Machine.execRnz s
  | .jnz a => Sys2Proof.Machine.execJnz a s
  | .jmp a => Sys2Proof.Machine.execJmp a s
  | .cnz a => Sys2Proof.Machine.execCnz a s
  | .rst0 => Sys2Proof.Machine.execRst0 s
  | .rz => Sys2Proof.Machine.execRz s
  | .ret => Sys2Proof.Machine.execRet s
  | .jz a => Sys2Proof.Machine.execJz a s
  | .jmpCB a => Sys2Proof.Machine.execJmpCB a s
  | .cz a => Sys2Proof.Machine.execCz a s
  | .call a => Sys2Proof.Machine.execCall a s
  | .rst1 => Sys2Proof.Machine.execRst1 s
  | .rnc => Sys2Proof.Machine.execRnc s
  | .jnc a => Sys2Proof.Machine.execJnc a s
  | .cnc a => Sys2Proof.Machine.execCnc a s
  | .rst2 => Sys2Proof.Machine.execRst2 s
  | .rc => Sys2Proof.Machine.execRc s
  | .retD9 => Sys2Proof.Machine.execRetD9 s
  | .jc a => Sys2Proof.Machine.execJc a s
  | .cc a => Sys2Proof.Machine.execCc a s
  | .callDD a => Sys2Proof.Machine.execCallDD a s
  | .rst3 => Sys2Proof.Machine.execRst3 s
  | .rpo => Sys2Proof.Machine.execRpo s
  | .jpo a => Sys2Proof.Machine.execJpo a s
  | .cpo a => Sys2Proof.Machine.execCpo a s
  | .rst4 => Sys2Proof.Machine.execRst4 s
  | .rpe => Sys2Proof.Machine.execRpe s
  | .pchl => Sys2Proof.Machine.execPchl s
  | .jpe a => Sys2Proof.Machine.execJpe a s
  | .cpe a => Sys2Proof.Machine.execCpe a s
  | .callED a => Sys2Proof.Machine.execCallED a s
  | .rst5 => Sys2Proof.Machine.execRst5 s
  | .rp => Sys2Proof.Machine.execRp s
  | .jp a => Sys2Proof.Machine.execJp a s
  | .cp a => Sys2Proof.Machine.execCp a s
  | .rst6 => Sys2Proof.Machine.execRst6 s
  | .rm => Sys2Proof.Machine.execRm s
  | .jm a => Sys2Proof.Machine.execJm a s
  | .cm a => Sys2Proof.Machine.execCm a s
  | .callFD a => Sys2Proof.Machine.execCallFD a s
  | .rst7 => Sys2Proof.Machine.execRst7 s
  -- spec/44_system.md
  | .nop => Sys2Proof.Machine.execNop s
  | .nop08 => Sys2Proof.Machine.execNop08 s
  | .nop10 => Sys2Proof.Machine.execNop10 s
  | .nop18 => Sys2Proof.Machine.execNop18 s
  | .nop20 => Sys2Proof.Machine.execNop20 s
  | .nop28 => Sys2Proof.Machine.execNop28 s
  | .nop30 => Sys2Proof.Machine.execNop30 s
  | .nop38 => Sys2Proof.Machine.execNop38 s
  | .hlt => Sys2Proof.Machine.execHlt s
  | .outPort p => Sys2Proof.Machine.execOutPort p s
  | .inPort p => Sys2Proof.Machine.execInPort p s
  | .di => Sys2Proof.Machine.execDi s
  | .ei => Sys2Proof.Machine.execEi s

end Sys2Proof.Machine
end

