-- ==== Sys2Proof/Machine/Fetch.lean ====
section
/-! DEFINITION. Fetching one instruction at PC (spec/30_encoding.md R90: the opcode, then PC past it, then dispatch; R83, R84: the
operand), and placing one there. -/

namespace Sys2Proof.Machine

/-- The instruction at PC and the state after its bytes were fetched: opcode byte, dispatch, then the operand that the format
asks for (R90, R82-R84). `none` where the opcode matches no stage (R301). -/
def State.fetch (s : State) : Option (Instr × State) :=
  let op := s.fetchByte
  match dispatch op.1 with
  | none => none
  | some (.f1 i) => some (i, op.2)
  | some (.f2 make) => some (make op.2.fetchByte.1, op.2.fetchByte.2)
  | some (.f3 make) => some (make op.2.fetchWord.1, op.2.fetchWord.2)

/-- The bytes of the longest instruction that could stand at PC. -/
def State.fetchWindow (s : State) : List Byte := [s.byteAt s.pc, s.byteAt (s.pc + 1), s.byteAt (s.pc + 2)]

/-- The reads that fetching an instruction of `n` bytes at PC issues, newest first (R60, R83, R84). -/
def State.fetchReads (s : State) (n : Nat) : List Transaction :=
  match n with
  | 0 => []
  | 1 => [.memReadByte s.pc (s.byteAt s.pc)]
  | 2 => [.memReadByte (s.pc + 1) (s.byteAt (s.pc + 1)), .memReadByte s.pc (s.byteAt s.pc)]
  | _ => [.memReadWord (s.pc + 1) (s.wordAt (s.pc + 1)), .memReadByte s.pc (s.byteAt s.pc)]

/-- The state after an instruction of `n` bytes was fetched at PC. -/
def State.fetched (s : State) (n : Nat) : State :=
  { s with pc := s.pc + BitVec.ofNat 16 n, trace := s.fetchReads n ++ s.trace }

/-- The host writes bytes to memory from address `a` on, between steps (R344, R347): no transaction of the core's. -/
def State.hostStore (s : State) (a : Word) : List Byte → State
  | [] => s
  | v :: vs => State.hostStore { s with mem := Memory.writeByte s.mem a v } (a + 1) vs

end Sys2Proof.Machine
end

