-- ==== Sys2Proof/Machine/Step.lean ====
section
/-! DEFINITION. One step executes one instruction (spec/30_encoding.md R90). -/

namespace Sys2Proof.Machine

/-- `Step()` under a cycle table: fetch, execute, return the count of the opcode fetched (R90, R351). Where the opcode matches no
stage the step ends with the decode-failure outcome (R301). -/
def stepWith (T : CycleTable) (s : State) : Host.Outcome State Fault Refusal :=
  match s.fetch with
  | none => .fault .decodeFailure
  | some (i, t) => returnCycles (T (s.byteAt s.pc) (conditionTaken i s.flags)) (exec i t)

/-- `Step()` under the default cycle table (R352). -/
def step (s : State) : Host.Outcome State Fault Refusal := stepWith cycleTable s

/-- The state with one instruction placed at PC, where the next step fetches (log 17). -/
def State.withFetchWord (s : State) (nbits w : Nat) : State := s.hostStore s.pc (tableBytes nbits w)

end Sys2Proof.Machine
end

