-- ==== Sys2Proof/Machine/HostOps.lean ====
section
/-! DEFINITION. What the host applies to the core between steps (spec/70_reset_and_hazards.md R340-R345, spec/10_state.md R36),
and what a run and its end are (R344, R345). -/

namespace Sys2Proof.Machine

/-- `Reset()` with its open parameters as arguments (R340, D1, D2). No transaction; memory, the record of transactions and the
host's answers are the host's and stay (R340-R342; log 13). -/
def State.hostReset (vector : Word) (regs : Config.ResetRegs) (s : State) : State :=
  { s with
    a := regs.a, b := regs.b, c := regs.c, d := regs.d, e := regs.e, h := regs.h, l := regs.l, sp := regs.sp,
    lastPC := regs.lastPC, pc := vector, flags := Flags.reset, iff := false }

/-- `ForceJump(addr)`: only the low 16 bits of the argument are kept (R343). -/
def State.forceJump (s : State) (addr : Nat) : State := { s with pc := BitVec.ofNat 16 addr }

/-- `Halted(s)`: the byte at PC is HLT (R345). -/
def State.halted (s : State) : Bool := s.byteAt s.pc == 0x76

/-- What the host's accessors return (R36). -/
structure Accessors where
  pc : Word
  a : Byte
  b : Byte
  c : Byte
  d : Byte
  e : Byte
  h : Byte
  l : Byte
  bc : Word
  de : Word
  hl : Word
  sp : Word
deriving DecidableEq, Repr

/-- The read-only accessors (R36): nothing of the flags, IFF or lastPC. -/
def State.accessors (s : State) : Accessors :=
  { pc := s.pc, a := s.a, b := s.b, c := s.c, d := s.d, e := s.e, h := s.h, l := s.l, bc := s.bc, de := s.de, hl := s.hl,
    sp := s.sp }

/-- One operation of the host between steps (R344), its own writes and answers among them. -/
inductive HostOp where
  | reset (vector : Word) (regs : Config.ResetRegs)
  | forceJump (addr : Nat)
  /-- The host's own write to its memory, between steps. -/
  | store (a : Word) (v : Byte)
  /-- The host has one more byte ready for a coming port input (log 6). -/
  | answer (v : Byte)
  | step
deriving DecidableEq, Repr

/-- The operation applied. -/
def HostOp.apply (op : HostOp) (s : State) : Result :=
  match op with
  | .reset vector regs => .next (s.hostReset vector regs)
  | .forceJump addr => .next (s.forceJump addr)
  | .store a v => .next (s.hostStore a [v])
  | .answer v => .next { s with portAnswers := s.portAnswers ++ [v] }
  | .step => Sys2Proof.Machine.step s

/-- The core's run: the host's operations one after another (R344). -/
def runOps : List HostOp → State → Result
  | [], s => .next s
  | op :: ops, s =>
    match op.apply s with
    | .next t => runOps ops t
    | .fault r => .fault r
    | .refused r => .refused r

/-- The end state of a program: the first state in which Halted holds, within a budget of steps (R345, D22). `none`, where the
budget is used up, is the refusal of an end state. -/
def endState : Nat → State → Option State
  | 0, s => if s.halted then some s else none
  | n + 1, s =>
    if s.halted then some s
    else
      match step s with
      | .next t => endState n t
      | .fault _ => none
      | .refused _ => none

/-- The chronological list of the run's events: port transactions and notifications (R62). -/
def State.events (s : State) : List Transaction :=
  s.trace.reverse.filter fun t =>
    match t with
    | .portIn _ _ | .portOut _ _ | .notifyIff _ => true
    | .memReadByte _ _ | .memReadWord _ _ | .memWriteByte _ _ | .memWriteWord _ _ => false

/-- What a step returns to the host: a count, or the negative sentinel (R301, R302). -/
def stepReturn : Result → Option Int
  | .next s => some s.cycles
  | .fault .decodeFailure => some Config.decodeFailSentinel
  | .refused _ => none

end Sys2Proof.Machine
end

