-- ==== Sys2Proof/Safety.lean ====
section
/-! DEFINITION. The terms in which claims about the machine are made: what a step may write (spec/10_state.md R33, R35; spec/20_memory.md
R60), what the record of transactions must say (R62, R66), and what a safe step is (spec/60_exceptions.md R300). -/

namespace Sys2Proof.Machine

/-! ## Safe steps -/

/-- The step completes: it neither faults nor is refused (R300, R301). -/
def Completes (s : State) : Prop := ∃ t, step s = .next t

/-! ## Invariants -/

/-- Memory is in its canonical form. -/
def MemoryCanonical (s : State) : Prop := Memory.wf s.mem = true

/-- The memory that the recorded writes make of `m0`; the newest transaction stands first (R62: a write changes only the bytes it
names, and a read changes nothing). -/
def replay (m0 : Memory) : List Transaction → Memory
  | [] => m0
  | .memWriteByte a v :: ts => Memory.writeByte (replay m0 ts) a v
  | .memWriteWord a v :: ts => Memory.writeWord (replay m0 ts) a v
  | .memReadByte _ _ :: ts => replay m0 ts
  | .memReadWord _ _ :: ts => replay m0 ts
  | .portIn _ _ :: ts => replay m0 ts
  | .portOut _ _ :: ts => replay m0 ts
  | .notifyIff _ :: ts => replay m0 ts

/-- Every recorded read returned what the writes before it had left (R66). -/
def ReadsLatest (m0 : Memory) : List Transaction → Prop
  | [] => True
  | .memReadByte a v :: ts => v = Memory.readByte (replay m0 ts) a ∧ ReadsLatest m0 ts
  | .memReadWord a v :: ts => v = Memory.readWord (replay m0 ts) a ∧ ReadsLatest m0 ts
  | .memWriteByte _ _ :: ts => ReadsLatest m0 ts
  | .memWriteWord _ _ :: ts => ReadsLatest m0 ts
  | .portIn _ _ :: ts => ReadsLatest m0 ts
  | .portOut _ _ :: ts => ReadsLatest m0 ts
  | .notifyIff _ :: ts => ReadsLatest m0 ts

/-- The record accounts for memory: since memory was `m0`, every change is a recorded write and every read returned the latest
write (R62, R66). -/
def Coherent (m0 : Memory) (s : State) : Prop := s.mem = replay m0 s.trace ∧ ReadsLatest m0 s.trace

/-- The value of IFF that the host knows from the notifications; false, as after reset, before the first one (R29, R342). -/
def notifiedIff : List Transaction → Bool
  | [] => false
  | .notifyIff b :: _ => b
  | .memReadByte _ _ :: ts => notifiedIff ts
  | .memReadWord _ _ :: ts => notifiedIff ts
  | .memWriteByte _ _ :: ts => notifiedIff ts
  | .memWriteWord _ _ :: ts => notifiedIff ts
  | .portIn _ _ :: ts => notifiedIff ts
  | .portOut _ _ :: ts => notifiedIff ts

/-- IFF is what the host knows it to be. -/
def IffReported (s : State) : Prop := s.iff = notifiedIff s.trace

/-! ## What a form writes -/

/-- The two 8-bit registers of a pair (R23); SP's halves are no registers (R24). -/
def pairHalves : Pair → List Reg8
  | .bc => [.b, .c]
  | .de => [.d, .e]
  | .hl => [.h, .l]
  | .sp => []

/-- The 8-bit destinations of a form (R35); `m` among them is the byte at HL, no register. -/
def destinations : Form → List Reg8
  | .mov dst _ => [dst]
  | .mvi dst => [dst]
  | .inr r => [r]
  | .dcr r => [r]
  | .alu .cmp _ => []
  | .alu _ _ => [.a]
  | .aluImm .cmp => []
  | .aluImm _ => [.a]
  | .lda | .ldax _ | .daa | .cma | .rlc | .rrc | .ral | .rar | .inPort | .popPSW => [.a]
  | .lxi p | .inx p | .dcx p | .pop p => pairHalves p
  | .dad _ | .lhld | .xthl => [.h, .l]
  | .xchg => [.d, .e, .h, .l]
  | .nop | .hlt | .ei | .di | .outPort | .sta | .shld | .stax _ | .sphl | .push _ | .pushPSW | .stc | .cmc | .jmp | .jcc _
  | .call | .ccc _ | .ret | .rcc _ | .rst _ | .pchl => []

/-- The forms that write SP (R35). -/
def writesSP : Form → Bool
  | .lxi .sp | .inx .sp | .dcx .sp => true
  | .sphl | .push _ | .pushPSW | .pop _ | .popPSW | .call | .ccc _ | .rst _ | .ret | .rcc _ => true
  | .lxi _ | .inx _ | .dcx _ => false
  | .nop | .hlt | .ei | .di | .inPort | .outPort | .mov _ _ | .mvi _ | .lda | .sta | .lhld | .shld | .ldax _ | .stax _
  | .xchg | .xthl | .inr _ | .dcr _ | .alu _ _ | .aluImm _ | .dad _ | .daa | .rlc | .rrc | .ral | .rar | .cma | .stc | .cmc
  | .jmp | .jcc _ | .pchl => false

/-- The forms that write PC other than by the fetch's advance (R35, R248). -/
def writesPC : Form → Bool
  | .jmp | .jcc _ | .call | .ccc _ | .ret | .rcc _ | .rst _ | .pchl | .hlt => true
  | .nop | .ei | .di | .inPort | .outPort | .mov _ _ | .mvi _ | .lxi _ | .lda | .sta | .lhld | .shld | .ldax _ | .stax _
  | .xchg | .xthl | .sphl | .push _ | .pushPSW | .pop _ | .popPSW | .inr _ | .dcr _ | .alu _ _ | .aluImm _ | .dad _ | .daa
  | .inx _ | .dcx _ | .rlc | .rrc | .ral | .rar | .cma | .stc | .cmc => false

/-- The forms that write IFF (R35). -/
def writesIff : Form → Bool
  | .ei | .di => true
  | .nop | .hlt | .inPort | .outPort | .mov _ _ | .mvi _ | .lxi _ | .lda | .sta | .lhld | .shld | .ldax _ | .stax _
  | .xchg | .xthl | .sphl | .push _ | .pushPSW | .pop _ | .popPSW | .inr _ | .dcr _ | .alu _ _ | .aluImm _ | .dad _ | .daa
  | .inx _ | .dcx _ | .rlc | .rrc | .ral | .rar | .cma | .stc | .cmc | .jmp | .jcc _ | .call | .ccc _ | .ret | .rcc _
  | .rst _ | .pchl => false

/-- The forms that write fS, fZ, fP and fH (the table of R33). -/
def writesSZHP : Form → Bool
  | .alu _ _ | .aluImm _ | .inr _ | .dcr _ | .daa | .popPSW => true
  | .nop | .hlt | .ei | .di | .inPort | .outPort | .mov _ _ | .mvi _ | .lxi _ | .lda | .sta | .lhld | .shld | .ldax _
  | .stax _ | .xchg | .xthl | .sphl | .push _ | .pushPSW | .pop _ | .dad _ | .inx _ | .dcx _ | .rlc | .rrc | .ral | .rar
  | .cma | .stc | .cmc | .jmp | .jcc _ | .call | .ccc _ | .ret | .rcc _ | .rst _ | .pchl => false

/-- The forms that write fC (the table of R33). -/
def writesC : Form → Bool
  | .alu _ _ | .aluImm _ | .dad _ | .daa | .rlc | .rrc | .ral | .rar | .stc | .cmc | .popPSW => true
  | .nop | .hlt | .ei | .di | .inPort | .outPort | .mov _ _ | .mvi _ | .lxi _ | .lda | .sta | .lhld | .shld | .ldax _
  | .stax _ | .xchg | .xthl | .sphl | .push _ | .pushPSW | .pop _ | .inr _ | .dcr _ | .inx _ | .dcx _ | .cma | .jmp
  | .jcc _ | .call | .ccc _ | .ret | .rcc _ | .rst _ | .pchl => false

/-- The bytes at `a` and `trunc_16(a + 1)` that a word write at `a` names (R55). -/
def wordBytes (a : Word) : List Word := [a, a + 1]

/-- The addresses of the bytes that an instruction stores to when it runs in `s` (R60), for the forms whose address is not an
operand of the instruction. -/
def formStores (s : State) : Form → List Word
  | .mov .m _ | .mvi .m | .inr .m | .dcr .m => [s.hl]
  | .mov _ _ | .mvi _ | .inr _ | .dcr _ => []
  | .stax p => [s.pair p]
  | .xthl => wordBytes s.sp
  | .push _ | .pushPSW | .call | .rst _ => wordBytes (s.sp - 2)
  | .ccc cond => if condHolds cond s.flags then wordBytes (s.sp - 2) else []
  | .sta | .shld => []
  | .nop | .hlt | .ei | .di | .inPort | .outPort | .lxi _ | .lda | .lhld | .ldax _ | .xchg | .sphl | .pop _ | .popPSW
  | .alu _ _ | .aluImm _ | .dad _ | .daa | .inx _ | .dcx _ | .rlc | .rrc | .ral | .rar | .cma | .stc | .cmc | .jmp | .jcc _
  | .ret | .rcc _ | .pchl => []

/-- The addresses of the bytes that an instruction stores to when it runs in `s`: every byte write and word write of R60. -/
def storedAt (i : Instr) (s : State) : List Word :=
  match i with
  | .sta a => [a]
  | .shld a => wordBytes a
  | other => formStores s other.form

end Sys2Proof.Machine
end

