-- ==== Sys2Proof/Certificates/Slice0/Obligations.lean ====
section
/-! DEFINITION. The statements for the provers. Each instruction's statement gives, for every state and operand, the next state that
its meaning answers, written out: the result, and, by the record update, everything left as it was.
The expected results below use plain arithmetic on numbers, not the model's tables. -/

open Sys2Proof Sys2Proof.Machine

namespace Sys2Proof.Expected

/-- The flags of an 8-bit result `r` with half-carry `half` and carry `carry` (R111). -/
def flags (r : Byte) (half carry : Bool) : Flags :=
  { fS := r.msb, fZ := decide (r = 0), fH := half, fP := parity8 r, fC := carry }

/-- `a + v + cin`: fH and fC by the closed form of the carry out of bit 3 and bit 7 (R115, R126). -/
def add (s : State) (v : Byte) (cin : Bool) : State :=
  { s with
    a := BitVec.ofNat 8 (s.a.toNat + v.toNat + cin.toNat)
    flags := flags (BitVec.ofNat 8 (s.a.toNat + v.toNat + cin.toNat))
      (decide (15 < s.a.toNat % 16 + v.toNat % 16 + cin.toNat)) (decide (255 < s.a.toNat + v.toNat + cin.toNat)) }

/-- `a - v - bin`, as a byte. -/
def difference (a v : Byte) (bin : Bool) : Byte := a - v - BitVec.ofNat 8 bin.toNat

/-- The flags of `a - v - bin`: fH is the absence of a borrow from bit 4, fC the unsigned borrow (R115, R126). -/
def subFlags (a v : Byte) (bin : Bool) : Flags :=
  flags (difference a v bin) (decide (v.toNat % 16 + bin.toNat ≤ a.toNat % 16)) (decide (a.toNat < v.toNat + bin.toNat))

/-- The reads that taking the operand `r` issues: one byte read at HL for M, none for a register (R30). -/
def operandReads (s : State) (r : Reg8) : List Transaction :=
  if r = .m then [.memReadByte s.hl (s.byteAt s.hl)] else []

/-- The state with the reads of an operand on record. -/
def read (s : State) (r : Reg8) : State := { s with trace := operandReads s r ++ s.trace }

/-- The state with a word pushed (R219). -/
def push (s : State) (v : Word) : State :=
  { s with
    sp := s.sp - 2
    mem := Memory.writeWord s.mem (s.sp - 2) v
    trace := .memWriteWord (s.sp - 2) v :: s.trace }

/-- The state with a word popped (R219). -/
def pop (s : State) : State := { s with sp := s.sp + 2, trace := .memReadWord s.sp (s.wordAt s.sp) :: s.trace }

/-- The bytes that a transaction writes, each with its address (R55). -/
def writtenBytes : Transaction → List (Word × Byte)
  | .memWriteByte a v => [(a, v)]
  | .memWriteWord a v => [(a, v.extractLsb' 0 8), (a + 1, v.extractLsb' 8 8)]
  | .memReadByte _ _ | .memReadWord _ _ | .portIn _ _ | .portOut _ _ | .notifyIff _ => []

/-- The value of a valid packed-BCD byte. -/
def bcd (v : Byte) : Nat := 10 * (v.toNat / 16) + v.toNat % 16

/-- Both digits of the byte are decimal. -/
def validBcd (v : Byte) : Prop := v.toNat / 16 ≤ 9 ∧ v.toNat % 16 ≤ 9

/-- How many opcode bytes meet `p`. -/
def countBytes (p : Byte → Bool) : Nat := (List.range 256).countP fun n => p (BitVec.ofNat 8 n)

end Sys2Proof.Expected

open Sys2Proof.Expected

/-- Decoding the bytes of any instruction gives that instruction back, with its operand, and leaves the bytes after it.
(30_encoding.md R82, R84, R92-R97) -/
def Obligations.DecodeOfEncodeGivesTheInstruction : Prop :=
  ∀ (i : Instr) (rest : List Byte), decode (encode i ++ rest) = .ok (i, rest)

/-- Whatever the decoder reads from a byte string, encoding it gives the bytes it read. (30_encoding.md R96-R100) -/
def Obligations.EncodeOfDecodeGivesTheBytes : Prop :=
  ∀ (bytes : List Byte) (i : Instr) (rest : List Byte), decode bytes = .ok (i, rest) → bytes = encode i ++ rest

/-- Every one of the 256 opcode bytes is assigned: 58 by stage 1, 109 by stage 2, 26 by stage 3, 63 by stage 4.
(30_encoding.md R91-R96, R99) -/
def Obligations.EveryOpcodeByteIsAssignedByOneStage : Prop :=
  (∀ op : Byte, (dispatch op).isSome = true) ∧
  countBytes (fun op => (stage1 op).isSome) = 58 ∧
  countBytes (fun op => (stage1 op).isNone && (stage2 op).isSome) = 109 ∧
  countBytes (fun op => (stage1 op).isNone && (stage2 op).isNone && (stage3 op).isSome) = 26 ∧
  countBytes (fun op => (stage1 op).isNone && (stage2 op).isNone && (stage3 op).isNone && (stage4 op).isSome) = 63 ∧
  ∀ op x y : Byte, ∃ i rest, decode [op, x, y] = .ok (i, rest)

/-- An instruction is 1, 2 or 3 bytes long and its first byte alone decides which. (30_encoding.md R80, R82, R100) -/
def Obligations.OpcodeByteAloneDecidesTheLength : Prop :=
  (∀ i : Instr, ∃ op operand, encode i = op :: operand ∧ i.length = opcodeLength op ∧ 1 ≤ i.length ∧ i.length ≤ 3) ∧
  ∀ (op : Byte) (more rest : List Byte) (i : Instr), decode (op :: more) = .ok (i, rest) →
    (op :: more).length = opcodeLength op + rest.length

/-- The twelve undocumented bytes execute exactly as NOP, JMP, RET and CALL, with the same cycle count. (30_encoding.md R98
(the pairing of the bytes is the spec's from general knowledge)) -/
def Obligations.UndocumentedBytesExecuteAsTheirInstructions : Prop :=
  ∀ (s : State) (a : Word) (taken : Bool),
  (∀ p ∈ [(0x08#8, Instr.nop08), (0x10#8, .nop10), (0x18#8, .nop18), (0x20#8, .nop20), (0x28#8, .nop28), (0x30#8, .nop30),
      (0x38#8, .nop38)],
    encode p.2 = [p.1] ∧ exec p.2 s = exec .nop s ∧ cycleTable p.1 taken = cycleTable 0x00 taken) ∧
  (encode (.jmpCB a) = [0xCB, Word.lo a, Word.hi a] ∧ exec (.jmpCB a) s = exec (.jmp a) s ∧
    cycleTable 0xCB taken = cycleTable 0xC3 taken) ∧
  (encode .retD9 = [0xD9] ∧ exec .retD9 s = exec .ret s ∧ cycleTable 0xD9 taken = cycleTable 0xC9 taken) ∧
  ∀ p ∈ [(0xDD#8, Instr.callDD a), (0xED#8, .callED a), (0xFD#8, .callFD a)],
    encode p.2 = [p.1, Word.lo a, Word.hi a] ∧ exec p.2 s = exec (.call a) s ∧
      cycleTable p.1 taken = cycleTable 0xCD taken

/-- Words written out from the spec's patterns decode to their instructions. (30_encoding.md R82-R97) -/
def Obligations.SampleWordsDecode : Prop :=
  decode [0b00_000_000#8] = .ok (.nop, []) ∧ decode [0b01_000_001#8] = .ok (.movBC, []) ∧
  decode [0b01_110_110#8] = .ok (.hlt, []) ∧ decode [0b00_111_110#8, 0x42] = .ok (.mviA 0x42, []) ∧
  decode [0b00_10_0001#8, 0x34, 0x12] = .ok (.lxiH 0x1234, []) ∧ decode [0b10_011_101#8] = .ok (.sbbL, []) ∧
  decode [0b11_111_110#8, 0x40] = .ok (.cpi 0x40, []) ∧ decode [0b11_11_0101#8] = .ok (.pushPSW, []) ∧
  decode [0b11_101_010#8, 0x00, 0x20] = .ok (.jpe 0x2000, []) ∧ decode [0b11_111_111#8] = .ok (.rst7, []) ∧
  decode [0b1101_1011#8, 0x10] = .ok (.inPort 0x10, []) ∧ decode [0b0010_0010#8, 0x00, 0x30] = .ok (.shld 0x3000, [])

/-- Every instruction is encoded by its pattern of bits, with its selectors in their fields and its operand bytes after it,
low byte first. (30_encoding.md R81, R82, R92-R95, R98 (the spec takes the patterns, and the pairing of the undocumented
bytes, from general knowledge; log 21)) -/
def Obligations.EncodingsFollowTheOpcodePatterns : Prop :=
  (∀ (dst r : Reg8) (i : Instr), Instr.mov dst r = some i → encode i = [(0b01#2 ++ dst.bits ++ r.bits : BitVec 8)]) ∧
  (∀ (o : AluOp) (r : Reg8), encode (Instr.alu o r) = [(0b10#2 ++ o.bits ++ r.bits : BitVec 8)]) ∧
  (∀ (o : AluOp) (v : Byte), encode (Instr.aluImm o v) = [(0b11#2 ++ o.bits ++ 0b110#3 : BitVec 8), v]) ∧
  (∀ (r : Reg8) (v : Byte), encode (Instr.mvi r v) = [(0b00#2 ++ r.bits ++ 0b110#3 : BitVec 8), v]) ∧
  (∀ r : Reg8, encode (Instr.inr r) = [(0b00#2 ++ r.bits ++ 0b100#3 : BitVec 8)] ∧
    encode (Instr.dcr r) = [(0b00#2 ++ r.bits ++ 0b101#3 : BitVec 8)]) ∧
  (∀ (cc : Cond) (a : Word),
    encode (Instr.jcc cc a) = [(0b11#2 ++ cc.bits ++ 0b010#3 : BitVec 8), a.extractLsb' 0 8, a.extractLsb' 8 8] ∧
    encode (Instr.ccc cc a) = [(0b11#2 ++ cc.bits ++ 0b100#3 : BitVec 8), a.extractLsb' 0 8, a.extractLsb' 8 8] ∧
    encode (Instr.rcc cc) = [(0b11#2 ++ cc.bits ++ 0b000#3 : BitVec 8)]) ∧
  (∀ n : BitVec 3, encode (Instr.rst n) = [(0b11#2 ++ n ++ 0b111#3 : BitVec 8)]) ∧
  (∀ (p : Pair) (v : Word),
    encode (Instr.lxi p v) = [(0b00#2 ++ p.bits ++ 0b0001#4 : BitVec 8), v.extractLsb' 0 8, v.extractLsb' 8 8] ∧
    encode (Instr.inx p) = [(0b00#2 ++ p.bits ++ 0b0011#4 : BitVec 8)] ∧
    encode (Instr.dad p) = [(0b00#2 ++ p.bits ++ 0b1001#4 : BitVec 8)] ∧
    encode (Instr.dcx p) = [(0b00#2 ++ p.bits ++ 0b1011#4 : BitVec 8)]) ∧
  (∀ (p : Pair) (i : Instr),
    (Instr.stax p = some i → encode i = [(0b00#2 ++ p.bits ++ 0b0010#4 : BitVec 8)]) ∧
    (Instr.ldax p = some i → encode i = [(0b00#2 ++ p.bits ++ 0b1010#4 : BitVec 8)]) ∧
    (Instr.pop p = some i → encode i = [(0b11#2 ++ p.bits ++ 0b0001#4 : BitVec 8)]) ∧
    (Instr.push p = some i → encode i = [(0b11#2 ++ p.bits ++ 0b0101#4 : BitVec 8)])) ∧
  (∀ q ∈ [(0x00#8, Instr.nop), (0x07, .rlc), (0x0F, .rrc), (0x17, .ral), (0x1F, .rar), (0x27, .daa), (0x2F, .cma), (0x37, .stc),
      (0x3F, .cmc), (0x76, .hlt), (0xC9, .ret), (0xE3, .xthl), (0xE9, .pchl), (0xEB, .xchg), (0xF1, .popPSW), (0xF3, .di),
      (0xF5, .pushPSW), (0xF9, .sphl), (0xFB, .ei), (0x08, .nop08), (0x10, .nop10), (0x18, .nop18), (0x20, .nop20),
      (0x28, .nop28), (0x30, .nop30), (0x38, .nop38), (0xD9, .retD9)], encode q.2 = [q.1]) ∧
  (∀ p : Byte, encode (.outPort p) = [0xD3, p] ∧ encode (.inPort p) = [0xDB, p]) ∧
  ∀ (a : Word) (q : Byte × Instr),
    q ∈ [(0x22#8, .shld a), (0x2A, .lhld a), (0x32, .sta a), (0x3A, .lda a), (0xC3, .jmp a), (0xCD, .call a), (0xCB, .jmpCB a),
      (0xDD, .callDD a), (0xED, .callED a), (0xFD, .callFD a)] →
    encode q.2 = [q.1, a.extractLsb' 0 8, a.extractLsb' 8 8]

/-- A step fetches at PC, moves PC past the instruction, runs it and returns the cycle count of the opcode fetched.
(30_encoding.md R83, R84, R90 (one word read for a 16-bit operand is the spec's decision D9, log 8; the whole fetch before
execution is read from R70 and R90, log 20), 20_memory.md R70, 70_reset_and_hazards.md R351) -/
def Obligations.StepRunsTheDecodedInstruction : Prop :=
  ∀ (T : CycleTable) (s : State) (i : Instr) (rest : List Byte),
  decode [s.byteAt s.pc, s.byteAt (s.pc + 1), s.byteAt (s.pc + 2)] = .ok (i, rest) →
  stepWith T s = returnCycles (T (s.byteAt s.pc) (conditionTaken i s.flags))
    (exec i { s with pc := s.pc + BitVec.ofNat 16 i.length, trace := s.fetchReads i.length ++ s.trace }) ∧
  step s = returnCycles (cycleTable (s.byteAt s.pc) (conditionTaken i s.flags))
    (exec i { s with pc := s.pc + BitVec.ofNat 16 i.length, trace := s.fetchReads i.length ++ s.trace })

/-- Every instruction completes in every state, and every step of every state answers a next state. (60_exceptions.md R300,
R301, 30_encoding.md R96) -/
def Obligations.NoStepFaultsOrIsRefused : Prop :=
  (∀ (i : Instr) (s : State), ∃ t, exec i s = .next t) ∧
  (∀ (T : CycleTable) (s : State), ∃ t, stepWith T s = .next t) ∧ ∀ s : State, Completes s

/-- Every completed step returns CycleTable(op, taken), and nothing else depends on the table. (70_reset_and_hazards.md
R351, R353 (the spec's decision D21), 30_encoding.md R87) -/
def Obligations.StepReturnsTheCycleTableEntry : Prop :=
  ∀ (T U : CycleTable) (s t : State), stepWith T s = .next t →
  (∃ i rest, decode s.fetchWindow = .ok (i, rest) ∧ t.cycles = T (s.byteAt s.pc) (conditionTaken i s.flags) ∧
    ∀ (cc : Cond) (a : Word), (i = Instr.jcc cc a ∨ i = Instr.ccc cc a ∨ i = Instr.rcc cc) →
      t.cycles = T (s.byteAt s.pc) (condHolds cc s.flags)) ∧
  ∃ k, stepWith U s = .next { t with cycles := k }

/-- The default cycle table is R352's, row by row; steps of MVI A, RST 7, the NOPs, Jcc, Ccc and Rcc return its counts.
(70_reset_and_hazards.md R352 (the source pins MVI A, RST 7 and NOP; the other defaults are the spec's from general
knowledge)) -/
def Obligations.StepCycleCountsAreThoseOfTheDefaultTable : Prop :=
  (∀ taken : Bool,
    (∀ q ∈ [(4, [0x00#8, 0x08, 0x10, 0x18, 0x20, 0x28, 0x30, 0x38, 0x07, 0x0F, 0x17, 0x1F, 0x27, 0x2F, 0x37, 0x3F, 0xEB, 0xF3, 0xFB]),
        (10, [0x01, 0x11, 0x21, 0x31, 0x09, 0x19, 0x29, 0x39, 0x34, 0x35, 0x36, 0xC1, 0xD1, 0xE1, 0xF1, 0xC3, 0xCB, 0xC9, 0xD9,
          0xD3, 0xDB]),
        (7, [0x02, 0x12, 0x0A, 0x1A, 0x06, 0x0E, 0x16, 0x1E, 0x26, 0x2E, 0x3E, 0x46, 0x4E, 0x56, 0x5E, 0x66, 0x6E, 0x7E, 0x70, 0x71,
          0x72, 0x73, 0x74, 0x75, 0x77, 0x76, 0x86, 0x8E, 0x96, 0x9E, 0xA6, 0xAE, 0xB6, 0xBE, 0xC6, 0xCE, 0xD6, 0xDE, 0xE6, 0xEE,
          0xF6, 0xFE]),
        (5, [0x03, 0x13, 0x23, 0x33, 0x0B, 0x1B, 0x2B, 0x3B, 0x04, 0x0C, 0x14, 0x1C, 0x24, 0x2C, 0x3C, 0x05, 0x0D, 0x15, 0x1D, 0x25,
          0x2D, 0x3D, 0xE9, 0xF9]),
        (16, [0x22, 0x2A]), (13, [0x32, 0x3A]), (17, [0xCD, 0xDD, 0xED, 0xFD]), (18, [0xE3]),
        (11, [0xC5, 0xD5, 0xE5, 0xF5, 0xC7, 0xCF, 0xD7, 0xDF, 0xE7, 0xEF, 0xF7, 0xFF])],
      ∀ op ∈ q.2, cycleTable op taken = q.1) ∧
    (∀ dst r : Reg8, dst ≠ .m → r ≠ .m → cycleTable (0b01#2 ++ dst.bits ++ r.bits : BitVec 8) taken = 5) ∧
    (∀ (o : AluOp) (r : Reg8), r ≠ .m → cycleTable (0b10#2 ++ o.bits ++ r.bits : BitVec 8) taken = 4) ∧
    ∀ cc : Cond,
      cycleTable (0b11#2 ++ cc.bits ++ 0b000#3 : BitVec 8) taken = (if taken then 11 else 5) ∧
      cycleTable (0b11#2 ++ cc.bits ++ 0b100#3 : BitVec 8) taken = (if taken then 17 else 11) ∧
      cycleTable (0b11#2 ++ cc.bits ++ 0b010#3 : BitVec 8) taken =
        (if taken then Config.cyclesJccTaken else Config.cyclesJccNotTaken)) ∧
  ∀ s : State, ∃ t, step s = .next t ∧
    (s.byteAt s.pc = 0x3E → t.cycles = 7) ∧ (s.byteAt s.pc = 0xFF → t.cycles = 11) ∧
    (s.byteAt s.pc ∈ [0x00#8, 0x08, 0x10, 0x18, 0x20, 0x28, 0x30, 0x38] → t.cycles = 4) ∧
    ∀ cc : Cond,
      (s.byteAt s.pc = (0b11#2 ++ cc.bits ++ 0b100#3 : BitVec 8) → t.cycles = if condHolds cc s.flags = true then 17 else 11) ∧
      (s.byteAt s.pc = (0b11#2 ++ cc.bits ++ 0b000#3 : BitVec 8) → t.cycles = if condHolds cc s.flags = true then 11 else 5) ∧
      (s.byteAt s.pc = (0b11#2 ++ cc.bits ++ 0b010#3 : BitVec 8) →
        t.cycles = if condHolds cc s.flags = true then Config.cyclesJccTaken else Config.cyclesJccNotTaken)

/-- A step only adds to the record of transactions, and what it adds begins with the reads of the instruction's bytes, the
opcode byte first. (20_memory.md R60, R61, R66, R70, 30_encoding.md R84, R90 (one word read for a 16-bit operand is the
spec's decision D9, log 8; all fetch reads before any data access is read from R70, log 20)) -/
def Obligations.StepsOnlyAddToTheRecordStartingWithTheOpcodeFetch : Prop :=
  ∀ (s t : State) (i : Instr) (rest : List Byte), decode s.fetchWindow = .ok (i, rest) → step s = .next t →
  ∃ data, t.trace = data ++ (s.fetchReads i.length ++ s.trace) ∧
    (s.fetchReads i.length).getLast? = some (.memReadByte s.pc (s.byteAt s.pc)) ∧ data.length ≤ 2

/-- The state after reset meets the three invariants that every step keeps. (20_memory.md R62, R66, 10_state.md R29, R39
(IFF false after reset is the spec's decision D3, log 13; no notification at reset is D4)) -/
def Obligations.ResetMeetsTheInvariants : Prop :=
  MemoryCanonical State.reset ∧ Coherent [] State.reset ∧ IffReported State.reset

/-- Every step keeps memory in its canonical form. (20_memory.md R50, R62) -/
def Obligations.StepKeepsMemoryCanonical : Prop :=
  ∀ s t : State, MemoryCanonical s → step s = .next t → MemoryCanonical t

/-- Every read in the record returned the latest earlier write to the same byte, and memory is what the recorded writes made
of it. (20_memory.md R62, R66, 20_memory.md R55, R56 (the high byte at a + 1 modulo 65536 is the spec's decision D6, log
14)) -/
def Obligations.StepKeepsReadsTheLatestWrites : Prop :=
  ∀ (m0 : Memory) (s t : State), Coherent m0 s → step s = .next t → Coherent m0 t

/-- Through every step, IFF is the value of the last notification. (10_state.md R29, R35, 20_memory.md R57, 44_system.md
R272, R273) -/
def Obligations.StepKeepsIffAsNotified : Prop :=
  ∀ s t : State, IffReported s → step s = .next t → IffReported t

/-- Only the instructions that R33's table lists change fS, fZ, fH, fP or fC. (10_state.md R33 (its table), 00_scope.md R10)
-/
def Obligations.FlagsChangeOnlyWhereTheirWritersAreListed : Prop :=
  ∀ (i : Instr) (s t : State), exec i s = .next t →
  (writesSZHP i.form = false →
    t.flags.fS = s.flags.fS ∧ t.flags.fZ = s.flags.fZ ∧ t.flags.fH = s.flags.fH ∧ t.flags.fP = s.flags.fP) ∧
  (writesC i.form = false → t.flags.fC = s.flags.fC)

/-- Only the instructions that R35 lists change A, B to L, SP, PC or IFF; none changes lastPC. (10_state.md R35, R31) -/
def Obligations.RegistersChangeOnlyWhereTheirWritersAreListed : Prop :=
  ∀ (i : Instr) (s t : State), exec i s = .next t →
  (∀ r : Reg8, r ≠ .m → r ∉ destinations i.form → t.reg8 r = s.reg8 r) ∧
  (writesSP i.form = false → t.sp = s.sp) ∧ (writesPC i.form = false → t.pc = s.pc) ∧
  (writesIff i.form = false → t.iff = s.iff) ∧ t.lastPC = s.lastPC

/-- Every byte of memory but those the instruction stores to reads as before. (20_memory.md R60, R62, 20_memory.md R55, R56
(the high byte at a + 1 modulo 65536 is the spec's decision D6, log 14), 42_data_transfer.md R219 (the spec takes the
stack's direction and order from general knowledge, log 21; decisions D6 and D26, logs 14 and 8)) -/
def Obligations.MemoryChangesOnlyAtTheStoredBytes : Prop :=
  ∀ (i : Instr) (s t : State) (x : Word), exec i s = .next t → x ∉ storedAt i s → t.byteAt x = s.byteAt x

/-- A step of any instruction but a control transfer or HLT leaves PC past the instruction. (43_control.md R248, 10_state.md
R25) -/
def Obligations.PcAdvancesPastEveryInstructionThatDoesNotTransfer : Prop :=
  ∀ (s : State) (i : Instr) (rest : List Byte), decode s.fetchWindow = .ok (i, rest) → writesPC i.form = false →
  ∃ t, step s = .next t ∧ t.pc = s.pc + BitVec.ofNat 16 i.length

/-- reg8[0..7] reads and writes B, C, D, E, H, L, the byte at HL, A. (R85, R30) -/
def Obligations.RegisterSelectorsNameTheRegistersAndM : Prop :=
  ([0, 1, 2, 3, 4, 5, 6, 7] : List (BitVec 3)).map Reg8.ofBits = [.b, .c, .d, .e, .h, .l, .m, .a] ∧
  ∀ (s : State) (v : Byte),
  ([.b, .c, .d, .e, .h, .l, .m, .a].map s.reg8 = [s.b, s.c, s.d, s.e, s.h, s.l, Memory.readByte s.mem (s.h ++ s.l), s.a]) ∧
  (∀ r : Reg8, r ≠ .m → s.afterReg8 r = s) ∧
  s.afterReg8 .m = { s with trace := .memReadByte (s.h ++ s.l) (Memory.readByte s.mem (s.h ++ s.l)) :: s.trace } ∧
  s.setReg8 .b v = { s with b := v } ∧ s.setReg8 .c v = { s with c := v } ∧ s.setReg8 .d v = { s with d := v } ∧
  s.setReg8 .e v = { s with e := v } ∧ s.setReg8 .h v = { s with h := v } ∧ s.setReg8 .l v = { s with l := v } ∧
  s.setReg8 .a v = { s with a := v } ∧
  s.setReg8 .m v =
    { s with mem := Memory.writeByte s.mem (s.h ++ s.l) v, trace := .memWriteByte (s.h ++ s.l) v :: s.trace }

/-- A pair is its two halves: writing the pair writes both, writing a half writes 8 bits of the pair. (R23) -/
def Obligations.RegisterPairsAreViewsOfTheirHalves : Prop :=
  ∀ (s : State) (v : Word) (x : Byte),
  (∀ p : Pair, (s.setPair p v).pair p = v) ∧
  s.setPair .bc v = { s with b := v.extractLsb' 8 8, c := v.extractLsb' 0 8 } ∧
  s.setPair .de v = { s with d := v.extractLsb' 8 8, e := v.extractLsb' 0 8 } ∧
  s.setPair .hl v = { s with h := v.extractLsb' 8 8, l := v.extractLsb' 0 8 } ∧ s.setPair .sp v = { s with sp := v } ∧
  (s.bc.toNat = 256 * s.b.toNat + s.c.toNat ∧ s.de.toNat = 256 * s.d.toNat + s.e.toNat ∧
    s.hl.toNat = 256 * s.h.toNat + s.l.toNat) ∧
  (State.bc { s with b := x } = x ++ s.c ∧ State.bc { s with c := x } = s.b ++ x) ∧
  (State.de { s with d := x } = x ++ s.e ∧ State.de { s with e := x } = s.d ++ x) ∧
  (State.hl { s with h := x } = x ++ s.l ∧ State.hl { s with l := x } = s.h ++ x) ∧
  (v + 1).toNat = (v.toNat + 1) % 65536 ∧ (v - 1).toNat = (v.toNat + 65535) % 65536

/-- A word is the low byte at a and the high byte at a + 1 modulo 65536, for reads and writes. (20_memory.md R54, R55, R58,
R59, 20_memory.md R56 (the spec's decision D6)) -/
def Obligations.WordAccessesAreLittleEndianAndWrap : Prop :=
  ∀ (m : Memory) (a v : Word), Memory.wf m = true →
  (Memory.readWord m a).toNat = 256 * (Memory.readByte m (a + 1)).toNat + (Memory.readByte m a).toNat ∧
  Memory.readByte (Memory.writeWord m a v) a = v.extractLsb' 0 8 ∧
  Memory.readByte (Memory.writeWord m a v) (a + 1) = v.extractLsb' 8 8 ∧
  Memory.readWord (Memory.writeWord m a v) a = v ∧
  ∀ x : Word, x ≠ a → x ≠ a + 1 → Memory.readByte (Memory.writeWord m a v) x = Memory.readByte m x

/-- Parity8(v) is true exactly when v has an even number of set bits. (R110) -/
def Obligations.ParityIsAnEvenNumberOfSetBits : Prop :=
  ∀ v : Byte, parity8 v = true ↔
  (v[0].toNat + v[1].toNat + v[2].toNat + v[3].toNat + v[4].toNat + v[5].toNat + v[6].toNat + v[7].toNat) % 2 = 0

/-- The packed flag byte is S7 Z6 0 H4 0 P2 1 C0; unpacking discards bits 5, 3 and 1. (10_state.md R27, R28 (the spec takes
the five flags' positions from general knowledge)) -/
def Obligations.FlagByteLayoutAndItsReserves : Prop :=
  (∀ f : Flags, (packFlags f).toNat = 128 * f.fS.toNat + 64 * f.fZ.toNat + 16 * f.fH.toNat + 4 * f.fP.toNat + 2 + f.fC.toNat ∧
    unpackFlags (packFlags f) = f) ∧
  ∀ v : Byte, unpackFlags v = { fS := v[7], fZ := v[6], fH := v[4], fP := v[2], fC := v[0] } ∧
    packFlags (unpackFlags v) = (v &&& 0xD5) ||| 0x02

/-- The half-carry tables give the carry out of bit 3 of a sum and the absence of a borrow from bit 4 of a difference.
(40_alu_ops.md R112-R115 (the tables are the source's, the closed forms the spec's enumeration)) -/
def Obligations.HalfCarryTablesEqualTheirClosedForms : Prop :=
  (∀ (a v : Byte) (w : Word),
    addHalf a v w = ([false, false, true, false, true, false, true, true].getD
      (4 * a[3].toNat + 2 * v[3].toNat + w[3].toNat) false) ∧
    subHalf a v w = !([false, true, true, true, false, false, false, true].getD
      (4 * a[3].toNat + 2 * v[3].toNat + w[3].toNat) false)) ∧
  ∀ (a v : Byte) (cin : Bool),
  (wideAdd a v cin).toNat = a.toNat + v.toNat + cin.toNat ∧
  wideSub a v cin = BitVec.ofInt 16 ((a.toNat : Int) - v.toNat - cin.toNat) ∧
  addHalf a v (wideAdd a v cin) = decide (a.toNat % 16 + v.toNat % 16 + cin.toNat > 15) ∧
  subHalf a v (wideSub a v cin) = decide (a.toNat % 16 ≥ v.toNat % 16 + cin.toNat)

/-- MOV moves a register or the byte at HL, MVI its immediate byte, to a register or to the byte at HL; only MOV M,M does
not exist. (42_data_transfer.md R200-R204) -/
def Obligations.MovAndMviMoveBytes : Prop :=
  (∀ dst r : Reg8, Instr.mov dst r = none ↔ dst = .m ∧ r = .m) ∧
  (∀ (dst r : Reg8) (i : Instr) (s : State), Instr.mov dst r = some i → exec i s = .next ((read s r).setReg8 dst (s.reg8 r))) ∧
  ∀ (r : Reg8) (v : Byte) (s : State), exec (Instr.mvi r v) s = .next (s.setReg8 r v)

/-- LXI loads BC, DE, HL or SP with its immediate word. (42_data_transfer.md R205) -/
def Obligations.LxiLoadsThePair : Prop :=
  ∀ (v : Word) (s : State),
  exec (.lxiB v) s = .next { s with b := v.extractLsb' 8 8, c := v.extractLsb' 0 8 } ∧
  exec (.lxiD v) s = .next { s with d := v.extractLsb' 8 8, e := v.extractLsb' 0 8 } ∧
  exec (.lxiH v) s = .next { s with h := v.extractLsb' 8 8, l := v.extractLsb' 0 8 } ∧
  exec (.lxiSP v) s = .next { s with sp := v }

/-- LDA loads A from its address, LDAX from the address in BC or DE, LHLD loads L and H from its address and the next.
(42_data_transfer.md R206, R208, R210, 20_memory.md R56 (the spec's decision D6)) -/
def Obligations.DirectAndIndirectLoads : Prop :=
  ∀ (s : State) (a : Word),
  exec (.lda a) s = .next { s with a := s.byteAt a, trace := .memReadByte a (s.byteAt a) :: s.trace } ∧
  (Instr.ldax .bc = some .ldaxB ∧ Instr.ldax .de = some .ldaxD ∧ Instr.ldax .hl = none ∧ Instr.ldax .sp = none) ∧
  exec .ldaxB s = .next { s with a := s.byteAt s.bc, trace := .memReadByte s.bc (s.byteAt s.bc) :: s.trace } ∧
  exec .ldaxD s = .next { s with a := s.byteAt s.de, trace := .memReadByte s.de (s.byteAt s.de) :: s.trace } ∧
  exec (.lhld a) s = .next
    { s with h := s.byteAt (a + 1), l := s.byteAt a, trace := .memReadWord a (s.byteAt (a + 1) ++ s.byteAt a) :: s.trace }

/-- STA stores A at its address, STAX at the address in BC or DE, SHLD stores L at its address and H at the next; every
other byte stays. (42_data_transfer.md R207, R209, R211, 20_memory.md R56 (the spec's decision D6)) -/
def Obligations.DirectAndIndirectStores : Prop :=
  (Instr.stax .bc = some .staxB ∧ Instr.stax .de = some .staxD ∧ Instr.stax .hl = none ∧ Instr.stax .sp = none) ∧
  ∀ (s : State) (a : Word), MemoryCanonical s →
  (∀ p ∈ [(Instr.sta a, a), (.staxB, s.bc), (.staxD, s.de)],
    ∃ t, exec p.1 s = .next t ∧
      t = { s with mem := Memory.writeByte s.mem p.2 s.a, trace := .memWriteByte p.2 s.a :: s.trace } ∧
      t.byteAt p.2 = s.a ∧ ∀ x : Word, x ≠ p.2 → t.byteAt x = s.byteAt x) ∧
  ∃ t, exec (.shld a) s = .next t ∧
    t = { s with mem := Memory.writeWord s.mem a s.hl, trace := .memWriteWord a s.hl :: s.trace } ∧
    t.byteAt a = s.l ∧ t.byteAt (a + 1) = s.h ∧ ∀ x : Word, x ≠ a → x ≠ a + 1 → t.byteAt x = s.byteAt x

/-- XCHG exchanges DE and HL; SPHL copies HL to SP. (42_data_transfer.md R212, R214) -/
def Obligations.XchgAndSphlMoveTheirPairs : Prop :=
  ∀ s : State,
  exec .xchg s = .next { s with d := s.h, e := s.l, h := s.d, l := s.e } ∧
  (∀ t, exec .xchg s = .next t → exec .xchg t = .next s) ∧
  exec .sphl s = .next { s with sp := s.h ++ s.l }

/-- XTHL exchanges L with the byte at SP and H with the next byte; SP stays. (42_data_transfer.md R213, 20_memory.md R56
(the spec's decision D6)) -/
def Obligations.XthlExchangesHlWithTheStackTop : Prop :=
  ∀ s : State, MemoryCanonical s →
  ∃ t, exec .xthl s = .next t ∧
    t = { s with
      h := s.byteAt (s.sp + 1), l := s.byteAt s.sp, mem := Memory.writeWord s.mem s.sp s.hl,
      trace := .memWriteWord s.sp s.hl :: .memReadWord s.sp (s.wordAt s.sp) :: s.trace } ∧
    t.byteAt s.sp = s.l ∧ t.byteAt (s.sp + 1) = s.h ∧
    ∀ x : Word, x ≠ s.sp → x ≠ s.sp + 1 → t.byteAt x = s.byteAt x

/-- PUSH stores a pair, or A and the packed flags, below SP and lowers SP by 2, modulo 65536. (42_data_transfer.md R215,
R216 (A as the high byte of PSW is the spec's from general knowledge, log 21), 10_state.md R27 (the flags' places in the
packed byte are the spec's from general knowledge, log 21), 42_data_transfer.md R219 (the spec takes the stack's direction
and order from general knowledge, log 21; decisions D6 and D26, logs 14 and 8)) -/
def Obligations.PushStoresBelowTheStackPointer : Prop :=
  (Instr.push .bc = some .pushB ∧ Instr.push .de = some .pushD ∧ Instr.push .hl = some .pushH ∧ Instr.push .sp = none) ∧
  ∀ s : State, MemoryCanonical s →
  ∀ p ∈ [(Instr.pushB, s.bc), (.pushD, s.de), (.pushH, s.hl), (.pushPSW, s.a ++ packFlags s.flags)],
    ∃ t, exec p.1 s = .next t ∧
      t = { s with
        sp := s.sp - 2, mem := Memory.writeWord s.mem (s.sp - 2) p.2, trace := .memWriteWord (s.sp - 2) p.2 :: s.trace } ∧
      t.byteAt (s.sp - 2) = p.2.extractLsb' 0 8 ∧ t.byteAt (s.sp - 1) = p.2.extractLsb' 8 8 ∧
      ∀ x : Word, x ≠ s.sp - 2 → x ≠ s.sp - 1 → t.byteAt x = s.byteAt x

/-- POP loads a pair, or A and the five flags, from the word at SP and raises SP by 2, modulo 65536. (42_data_transfer.md
R217, R218 (A as the high byte of PSW is the spec's from general knowledge, log 21), 10_state.md R27, R28 (the flags' places
in the packed byte are the spec's from general knowledge, log 21), 42_data_transfer.md R219 (the spec takes the stack's
direction and order from general knowledge, log 21; decisions D6 and D26, logs 14 and 8)) -/
def Obligations.PopLoadsFromTheStackPointer : Prop :=
  (Instr.pop .bc = some .popB ∧ Instr.pop .de = some .popD ∧ Instr.pop .hl = some .popH ∧ Instr.pop .sp = none) ∧
  ∀ s : State,
  exec .popB s = .next { pop s with b := s.byteAt (s.sp + 1), c := s.byteAt s.sp } ∧
  exec .popD s = .next { pop s with d := s.byteAt (s.sp + 1), e := s.byteAt s.sp } ∧
  exec .popH s = .next { pop s with h := s.byteAt (s.sp + 1), l := s.byteAt s.sp } ∧
  exec .popPSW s = .next
    { pop s with
      a := s.byteAt (s.sp + 1)
      flags :=
        { fS := (s.byteAt s.sp)[7], fZ := (s.byteAt s.sp)[6], fH := (s.byteAt s.sp)[4], fP := (s.byteAt s.sp)[2],
          fC := (s.byteAt s.sp)[0] } }

/-- PUSH followed by POP of the same pair, or of PSW, gives back the pair or A and the flags, and SP, for every SP.
(42_data_transfer.md R215-R218, 42_data_transfer.md R219 (the spec takes the stack's direction and order from general
knowledge, log 21; decisions D6 and D26, logs 14 and 8), 10_state.md R27, R28 (the flags' places in the packed byte are the
spec's from general knowledge, log 21), 95_test_vectors.md S5, S6) -/
def Obligations.PushThenPopRestoresThePair : Prop :=
  ∀ s : State, MemoryCanonical s →
  ∀ p ∈ [(Instr.pushB, Instr.popB), (.pushD, .popD), (.pushH, .popH), (.pushPSW, .popPSW)],
    ∃ t u, exec p.1 s = .next t ∧ exec p.2 t = .next u ∧ u = { s with mem := u.mem, trace := u.trace }

/-- INR adds one to its operand and DCR subtracts one; fS, fZ, fH, fP come from the result and fC is kept.
(41_arith_logic.md R140-R143, 40_alu_ops.md R111, R122, R123 (fH by the spec's decision D11, log 15; that fS is bit 7 of the
result, R111, is the spec's from general knowledge, log 21)) -/
def Obligations.InrAndDcrKeepTheCarry : Prop :=
  ∀ (r : Reg8) (s : State),
  exec (Instr.inr r) s = .next (State.setReg8
    { read s r with flags := Expected.flags (s.reg8 r + 1) (decide ((s.reg8 r).toNat % 16 = 15)) s.flags.fC }
    r (s.reg8 r + 1)) ∧
  exec (Instr.dcr r) s = .next (State.setReg8
    { read s r with flags := Expected.flags (s.reg8 r - 1) (decide ((s.reg8 r).toNat % 16 ≠ 0)) s.flags.fC }
    r (s.reg8 r - 1))

/-- ADD, ADI add their operand, ADC, ACI their operand and fC, to A, and set all five flags. (40_alu_ops.md R115, R116 (that
fS is bit 7 of the result, R111, is the spec's from general knowledge, log 21)) -/
def Obligations.AddAndAdcAddToA : Prop :=
  (∀ (r : Reg8) (s : State),
    exec (Instr.alu .add r) s = .next (add (read s r) (s.reg8 r) false) ∧
    exec (Instr.alu .adc r) s = .next (add (read s r) (s.reg8 r) s.flags.fC)) ∧
  ∀ (v : Byte) (s : State),
    exec (.adi v) s = .next (add s v false) ∧ exec (.aci v) s = .next (add s v s.flags.fC)

/-- SUB, SUI subtract their operand, SBB, SBI their operand and fC, from A, and set all five flags. (40_alu_ops.md R115,
R117 (that fS is bit 7 of the result, R111, is the spec's from general knowledge, log 21)) -/
def Obligations.SubAndSbbSubtractFromA : Prop :=
  (∀ (r : Reg8) (s : State),
    exec (Instr.alu .sub r) s = .next
      { read s r with a := difference s.a (s.reg8 r) false, flags := subFlags s.a (s.reg8 r) false } ∧
    exec (Instr.alu .sbb r) s = .next
      { read s r with a := difference s.a (s.reg8 r) s.flags.fC, flags := subFlags s.a (s.reg8 r) s.flags.fC }) ∧
  ∀ (v : Byte) (s : State),
    exec (.sui v) s = .next { s with a := difference s.a v false, flags := subFlags s.a v false } ∧
    exec (.sbi v) s = .next { s with a := difference s.a v s.flags.fC, flags := subFlags s.a v s.flags.fC }

/-- CMP and CPI set the flags that SUB would set and leave A. (40_alu_ops.md R118 (that fS is bit 7 of the result, R111, is
the spec's from general knowledge, log 21)) -/
def Obligations.CmpSetsTheFlagsOfSubAndKeepsA : Prop :=
  (∀ (r : Reg8) (s : State),
    exec (Instr.alu .cmp r) s = .next { read s r with flags := subFlags s.a (s.reg8 r) false }) ∧
  (∀ (v : Byte) (s : State), exec (.cpi v) s = .next { s with flags := subFlags s.a v false }) ∧
  (∀ a v : Byte, (subFlags a v false).fZ = decide (a = v) ∧ (subFlags a v false).fC = decide (a.toNat < v.toNat)) ∧
  ∀ (v : Byte) (s t u : State), exec (.cpi v) s = .next t → exec (.sui v) s = .next u → t = { u with a := s.a }

/-- ANA and ANI and their operand into A; fH is bit 3 of (A before | operand), fC is cleared. (40_alu_ops.md R119 (that fS
is bit 7 of the result, R111, is the spec's from general knowledge, log 21)) -/
def Obligations.AnaAndsIntoAWithItsHalfCarry : Prop :=
  (∀ (r : Reg8) (s : State), exec (Instr.alu .ana r) s = .next
    { read s r with
      a := s.a &&& s.reg8 r, flags := Expected.flags (s.a &&& s.reg8 r) (s.a[3] || (s.reg8 r)[3]) false }) ∧
  ∀ (v : Byte) (s : State), exec (.ani v) s = .next
    { s with a := s.a &&& v, flags := Expected.flags (s.a &&& v) (s.a[3] || v[3]) false }

/-- XRA, XRI exclusive-or and ORA, ORI or their operand into A; fH and fC are cleared. (40_alu_ops.md R120, R121 (that fS is
bit 7 of the result, R111, is the spec's from general knowledge, log 21)) -/
def Obligations.XraAndOraClearTheCarries : Prop :=
  (∀ (r : Reg8) (s : State),
    exec (Instr.alu .xra r) s = .next
      { read s r with a := s.a ^^^ s.reg8 r, flags := Expected.flags (s.a ^^^ s.reg8 r) false false } ∧
    exec (Instr.alu .ora r) s = .next
      { read s r with a := s.a ||| s.reg8 r, flags := Expected.flags (s.a ||| s.reg8 r) false false }) ∧
  ∀ (v : Byte) (s : State),
    exec (.xri v) s = .next { s with a := s.a ^^^ v, flags := Expected.flags (s.a ^^^ v) false false } ∧
    exec (.ori v) s = .next { s with a := s.a ||| v, flags := Expected.flags (s.a ||| v) false false }

/-- DAD adds BC, DE, HL or SP to HL and sets fC alone, to the carry out of bit 15. (R124) -/
def Obligations.DadAddsAPairToHl : Prop :=
  ∀ (p : Pair) (s : State), exec (Instr.dad p) s = .next
  { s with
    h := (s.hl + s.pair p).extractLsb' 8 8, l := (s.hl + s.pair p).extractLsb' 0 8
    flags := { s.flags with fC := decide (65535 < s.hl.toNat + (s.pair p).toNat) } }

/-- DAA adds 06, 60 or 66 to A by the nibble conditions and sets fC to the high-nibble decision. (40_alu_ops.md R125 (that
fS is bit 7 of the result, R111, is the spec's from general knowledge, log 21)) -/
def Obligations.DaaAddsTheDecimalCorrection : Prop :=
  ∀ s : State, ∃ (low high : Bool) (k : Nat),
  (low = true ↔ s.flags.fH = true ∨ 9 < s.a.toNat % 16) ∧
  (high = true ↔ s.flags.fC = true ∨ 9 < s.a.toNat / 16 ∨ (9 ≤ s.a.toNat / 16 ∧ 9 < s.a.toNat % 16)) ∧
  k = (if low then 0x06 else 0) + (if high then 0x60 else 0) ∧
  exec .daa s = .next
    { s with
      a := BitVec.ofNat 8 (s.a.toNat + k)
      flags := Expected.flags (BitVec.ofNat 8 (s.a.toNat + k)) (decide (15 < s.a.toNat % 16 + k % 16)) high }

/-- After ADI or ACI of two packed decimal bytes, DAA leaves their decimal sum in A and its hundreds carry in fC.
(00_scope.md R11 (BCD adjustment), 40_alu_ops.md R116, R125, 41_arith_logic.md R146, R149, R169) -/
def Obligations.DaaMakesBinarySumsDecimal : Prop :=
  ∀ (s : State) (v : Byte), validBcd s.a → validBcd v →
  (∃ t u, exec (.adi v) s = .next t ∧ exec .daa t = .next u ∧ validBcd u.a ∧ bcd u.a = (bcd s.a + bcd v) % 100 ∧
    u.flags.fC = decide (100 ≤ bcd s.a + bcd v)) ∧
  ∃ t u, exec (.aci v) s = .next t ∧ exec .daa t = .next u ∧ validBcd u.a ∧
    bcd u.a = (bcd s.a + bcd v + s.flags.fC.toNat) % 100 ∧
    u.flags.fC = decide (100 ≤ bcd s.a + bcd v + s.flags.fC.toNat)

/-- INX and DCX add and subtract one, modulo 65536, on BC, DE, HL or SP and write no flag. (41_arith_logic.md R170, R171,
40_alu_ops.md R126) -/
def Obligations.InxAndDcxCountPairsWithoutFlags : Prop :=
  ∀ (p : Pair) (s : State),
  exec (Instr.inx p) s = .next (s.setPair p (BitVec.ofNat 16 ((s.pair p).toNat + 1))) ∧
  exec (Instr.dcx p) s = .next (s.setPair p (BitVec.ofNat 16 ((s.pair p).toNat + 65535)))

/-- RLC, RRC, RAL, RAR rotate A by one and put the bit that leaves in fC; CMA complements A; STC sets and CMC inverts fC.
(41_arith_logic.md R172-R178 (the rotates, and that no other flag is written, are the spec's from general knowledge)) -/
def Obligations.RotatesComplementAndCarryInstructions : Prop :=
  ∀ s : State,
  exec .rlc s = .next { s with a := s.a.extractLsb' 0 7 ++ s.a.extractLsb' 7 1, flags := { s.flags with fC := s.a[7] } } ∧
  exec .rrc s = .next { s with a := s.a.extractLsb' 0 1 ++ s.a.extractLsb' 1 7, flags := { s.flags with fC := s.a[0] } } ∧
  exec .ral s = .next { s with a := s.a.extractLsb' 0 7 ++ BitVec.ofBool s.flags.fC, flags := { s.flags with fC := s.a[7] } } ∧
  exec .rar s = .next { s with a := BitVec.ofBool s.flags.fC ++ s.a.extractLsb' 1 7, flags := { s.flags with fC := s.a[0] } } ∧
  exec .cma s = .next { s with a := 0xFF ^^^ s.a } ∧
  exec .stc s = .next { s with flags := { s.flags with fC := true } } ∧
  exec .cmc s = .next { s with flags := { s.flags with fC := !s.flags.fC } } ∧
  ∀ t, exec .cmc s = .next t → exec .cmc t = .next s

/-- The condition selector 0 to 7 tests fZ, fC, fP or fS, clear for even values and set for odd ones. (R87) -/
def Obligations.ConditionsTestTheirFlags : Prop :=
  ([0, 1, 2, 3, 4, 5, 6, 7] : List (BitVec 3)).map Cond.ofBits = [.nz, .z, .nc, .c, .po, .pe, .p, .m] ∧
  ∀ f : Flags, ([0, 1, 2, 3, 4, 5, 6, 7] : List (BitVec 3)).map (fun n => condHolds (.ofBits n) f)
    = [!f.fZ, f.fZ, !f.fC, f.fC, !f.fP, f.fP, !f.fS, f.fS]

/-- JMP sets PC to its address, PCHL to HL, and Jcc to its address where its condition holds. (43_control.md R240, R247,
43_control.md R241 (PC of a jump not taken by the spec's decision D10)) -/
def Obligations.JumpsSetPc : Prop :=
  ∀ (s : State) (a : Word),
  exec (.jmp a) s = .next { s with pc := a } ∧ exec (.jmpCB a) s = .next { s with pc := a } ∧
  exec .pchl s = .next { s with pc := s.h ++ s.l } ∧
  ∀ cc : Cond, exec (Instr.jcc cc a) s = .next { s with pc := if condHolds cc s.flags = true then a else s.pc }

/-- CALL and RST push the address of the next instruction and jump, RST n to 8 n; Ccc does so where its condition holds.
(43_control.md R242, R243, R246 (the pushed address by the spec's decision D14, a call not taken by D10),
42_data_transfer.md R219 (the spec takes the stack's direction and order from general knowledge, log 21; decisions D6 and
D26, logs 14 and 8), 30_encoding.md R89) -/
def Obligations.CallsAndRestartsPushTheNextAddressAndJump : Prop :=
  ∀ (s : State) (a : Word),
  (∀ i ∈ [Instr.call a, .callDD a, .callED a, .callFD a], exec i s = .next { push s s.pc with pc := a }) ∧
  (∀ cc : Cond, exec (Instr.ccc cc a) s = .next (if condHolds cc s.flags = true then { push s s.pc with pc := a } else s)) ∧
  (∀ n : BitVec 3, exec (Instr.rst n) s = .next { push s s.pc with pc := BitVec.ofNat 16 (8 * n.toNat) }) ∧
  [Instr.rst 0, .rst 1, .rst 2, .rst 3, .rst 4, .rst 5, .rst 6, .rst 7] = [.rst0, .rst1, .rst2, .rst3, .rst4, .rst5, .rst6, .rst7]

/-- RET pops PC; Rcc does so where its condition holds. (43_control.md R244, R245, 42_data_transfer.md R219 (the spec takes
the stack's direction and order from general knowledge, log 21; decisions D6 and D26, logs 14 and 8)) -/
def Obligations.ReturnsPopPc : Prop :=
  ∀ s : State,
  (∀ i ∈ [Instr.ret, .retD9], exec i s = .next { pop s with pc := s.byteAt (s.sp + 1) ++ s.byteAt s.sp }) ∧
  ∀ cc : Cond, exec (Instr.rcc cc) s = .next
    (if condHolds cc s.flags = true then { pop s with pc := s.byteAt (s.sp + 1) ++ s.byteAt s.sp } else s)

/-- A return (RET or a taken Rcc) after a CALL, a taken Ccc or an RST comes back to the next instruction with SP as it was.
(43_control.md R249 (the address returned to is the spec's decision D14, log 12), 42_data_transfer.md R219 (the spec takes
the stack's direction and order from general knowledge, log 21; decisions D6 and D26, logs 14 and 8)) -/
def Obligations.CallThenReturnRestoresPcAndSp : Prop :=
  ∀ (s : State) (a : Word) (cc ret : Cond) (n : BitVec 3), MemoryCanonical s →
  ∀ i j : Instr,
    (i ∈ [Instr.call a, .callDD a, .callED a, .callFD a] ∨ (i = Instr.ccc cc a ∧ condHolds cc s.flags = true) ∨ i = Instr.rst n) →
    (j ∈ [Instr.ret, .retD9] ∨ (j = Instr.rcc ret ∧ condHolds ret s.flags = true)) →
    ∃ t u, exec i s = .next t ∧ exec j t = .next u ∧ u = { s with mem := u.mem, trace := u.trace }

/-- NOP and its undocumented bytes change nothing past the fetch; HLT puts PC back on its own opcode. (44_system.md R270,
R271) -/
def Obligations.NopAndHaltMoveOnlyPc : Prop :=
  ∀ s : State,
  (∀ i ∈ [Instr.nop, .nop08, .nop10, .nop18, .nop20, .nop28, .nop30, .nop38], exec i s = .next s) ∧
  exec .hlt s = .next { s with pc := s.pc - 1 } ∧
  (s.byteAt s.pc ∈ [0x00#8, 0x08, 0x10, 0x18, 0x20, 0x28, 0x30, 0x38] →
    step s = .next { s with pc := s.pc + 1, trace := .memReadByte s.pc (s.byteAt s.pc) :: s.trace, cycles := 4 }) ∧
  (s.byteAt s.pc = 0x76 →
    step s = .next { s with trace := .memReadByte s.pc 0x76 :: s.trace, cycles := cycleTable 0x76 true })

/-- EI sets and DI clears IFF, and each notifies the host of the new value, whatever IFF was. (44_system.md R272, R273 (set
and clear by the spec's decision D15), 20_memory.md R57) -/
def Obligations.EnableAndDisableInterruptsNotify : Prop :=
  ∀ s : State,
  exec .ei s = .next { s with iff := true, trace := .notifyIff true :: s.trace } ∧
  exec .di s = .next { s with iff := false, trace := .notifyIff false :: s.trace }

/-- IN puts the host's byte for its port in A; OUT hands A to its port; neither touches memory or flags. (44_system.md R274,
R275, 20_memory.md R57, R62 (the spec's decision D7)) -/
def Obligations.PortInputAndOutput : Prop :=
  ∀ (s : State) (p : Byte),
  (∀ (v : Byte) (vs : List Byte), s.portAnswers = v :: vs →
    exec (.inPort p) s = .next { s with a := v, portAnswers := vs, trace := .portIn p v :: s.trace }) ∧
  (s.portAnswers = [] → ∃ v : Byte,
    exec (.inPort p) s = .next { s with a := v, portDraws := s.portDraws + 1, trace := .portIn p v :: s.trace }) ∧
  exec (.outPort p) s = .next { s with trace := .portOut p s.a :: s.trace }

/-- After reset the five flags are false, and they pack to 02. (R37) -/
def Obligations.ResetClearsTheFlags : Prop :=
  (∀ (vector : Word) (regs : Config.ResetRegs) (s : State),
    (s.hostReset vector regs).flags = { fS := false, fZ := false, fH := false, fP := false, fC := false } ∧
    packFlags (s.hostReset vector regs).flags = 0x02) ∧
  ∃ (vector : Word) (regs : Config.ResetRegs) (s : State), State.reset = s.hostReset vector regs

/-- Reset sets PC to the reset vector, clears IFF, takes every other register as given, and touches neither memory nor the
bus. (70_reset_and_hazards.md R340-R342, 10_state.md R38-R41 (the spec's decisions D1-D4)) -/
def Obligations.ResetSetsPcAndIffAndKeepsTheHostsSide : Prop :=
  ∀ (vector : Word) (regs : Config.ResetRegs) (s : State),
  s.hostReset vector regs =
    { s with
      a := regs.a, b := regs.b, c := regs.c, d := regs.d, e := regs.e, h := regs.h, l := regs.l, sp := regs.sp,
      lastPC := regs.lastPC, pc := vector, iff := false,
      flags := { fS := false, fZ := false, fH := false, fP := false, fC := false } }

/-- Once the byte at PC is HLT, every later step leaves every register and memory as they are and the core stays halted.
(70_reset_and_hazards.md R345 (the end of a run by the spec's decision D22), 60_exceptions.md R313) -/
def Obligations.HaltedLastsUntilTheHostIntervenes : Prop :=
  (∀ (n : Nat) (s : State), s.halted = true →
    ∃ t : State, Host.Core.run Sys2Proof.core n s = .next t ∧ t.halted = true ∧
      t = { s with trace := t.trace, cycles := t.cycles }) ∧
  (∀ (n : Nat) (s t : State), endState n s = some t →
    t.halted = true ∧ ∃ k ≤ n, Host.Core.run Sys2Proof.core k s = .next t ∧
      ∀ j < k, ∀ u : State, Host.Core.run Sys2Proof.core j s = .next u → u.halted = false) ∧
  ∀ (n : Nat) (s : State), endState n s = none →
    ∀ k ≤ n, ∀ u : State, Host.Core.run Sys2Proof.core k s = .next u → u.halted = false

/-- Force-jump sets PC to the low 16 bits of its argument and nothing else; it takes the core out of a HLT loop.
(70_reset_and_hazards.md R343, 30_encoding.md R84, R90 (the fetch of the instruction there: one word read for a 16-bit
operand is the spec's decision D9, log 8; the whole fetch first, log 20)) -/
def Obligations.ForceJumpSetsPcAlone : Prop :=
  ∀ (s : State) (addr : Nat), s.forceJump addr = { s with pc := BitVec.ofNat 16 addr } ∧
  (s.forceJump addr).pc.toNat = addr % 65536 ∧
  ∀ i rest, decode [s.byteAt (BitVec.ofNat 16 addr), s.byteAt (BitVec.ofNat 16 addr + 1), s.byteAt (BitVec.ofNat 16 addr + 2)]
    = .ok (i, rest) →
    ∃ k, step (s.forceJump addr) = returnCycles k (exec i (State.fetched (s.forceJump addr) i.length))

/-- A byte stored by any instruction is what a fetch of that address right after it reads, as opcode or as operand.
(20_memory.md R60, R69, R70, 20_memory.md R55, R56 (the high byte at a + 1 modulo 65536 is the spec's decision D6, log 14),
42_data_transfer.md R219 (the spec takes the stack's direction and order from general knowledge, log 21; decisions D6 and
D26, logs 14 and 8), 30_encoding.md R84, R90 (the fetch: decision D9, log 8; the whole fetch first, log 20),
70_reset_and_hazards.md R349) -/
def Obligations.StoredCodeIsWhatTheNextFetchExecutes : Prop :=
  (∀ (s t : State) (i : Instr) (rest : List Byte) (data : List Transaction), MemoryCanonical s →
    decode s.fetchWindow = .ok (i, rest) → step s = .next t → t.trace = data ++ (s.fetchReads i.length ++ s.trace) →
    (data.flatMap writtenBytes).map Prod.fst = storedAt i (s.fetched i.length) ∧
    (∀ (x : Word) (v : Byte), (x, v) ∈ data.flatMap writtenBytes → t.byteAt x = v) ∧
    (∀ x : Word, x ∉ storedAt i (s.fetched i.length) → t.byteAt x = s.byteAt x) ∧
    ∀ p : Word, ∃ j more, encode j ++ more = [t.byteAt p, t.byteAt (p + 1), t.byteAt (p + 2)] ∧
      ∃ k, step { t with pc := p } = returnCycles k (exec j (State.fetched { t with pc := p } j.length))) ∧
  ∀ (s t u : State) (i : Instr), MemoryCanonical s →
  decode s.fetchWindow = .ok (.sta (s.pc + 3), []) → encode i = [s.a] →
  step s = .next t → step t = .next u →
    ∃ k, .next u = returnCycles k (exec i (t.fetched 1)) ∧ t.pc = s.pc + 3
end

