-- ==== Sys2Proof/Laws/Word.lean ====
section
/-! SUPPORT. A word and its two halves (spec/00_scope.md R7). -/

namespace Sys2Proof

theorem Word.toNat_ofBytes (h l : Byte) : (Word.ofBytes h l).toNat = 256 * h.toNat + l.toNat := by
  simp only [Word.ofBytes, BitVec.toNat_append]
  rw [Nat.shiftLeft_eq, ← Nat.mul_comm (2 ^ 8), Nat.two_pow_add_eq_or_of_lt l.isLt]

theorem Word.toNat_lo (v : Word) : (Word.lo v).toNat = v.toNat % 256 := by
  simp [Word.lo]

theorem Word.toNat_hi (v : Word) : (Word.hi v).toNat = v.toNat / 256 := by
  simp only [Word.hi, BitVec.toNat_setWidth, BitVec.toNat_ushiftRight, Nat.shiftRight_eq_div_pow]
  omega

/-- A word is its two halves put together. -/
@[simp] theorem Word.ofBytes_hi_lo (v : Word) : Word.ofBytes (Word.hi v) (Word.lo v) = v := by
  apply BitVec.eq_of_toNat_eq
  rw [Word.toNat_ofBytes, Word.toNat_lo, Word.toNat_hi]
  omega

@[simp] theorem Word.lo_ofBytes (h l : Byte) : Word.lo (Word.ofBytes h l) = l := by
  apply BitVec.eq_of_toNat_eq
  rw [Word.toNat_lo, Word.toNat_ofBytes]
  omega

@[simp] theorem Word.hi_ofBytes (h l : Byte) : Word.hi (Word.ofBytes h l) = h := by
  apply BitVec.eq_of_toNat_eq
  rw [Word.toNat_hi, Word.toNat_ofBytes]
  omega

theorem Word.lo_eq_extract (v : Word) : Word.lo v = v.extractLsb' 0 8 := by
  apply BitVec.eq_of_toNat_eq
  simp [Word.toNat_lo]

theorem Word.hi_eq_extract (v : Word) : Word.hi v = v.extractLsb' 8 8 := by
  apply BitVec.eq_of_toNat_eq
  rw [Word.toNat_hi, BitVec.extractLsb'_toNat, Nat.shiftRight_eq_div_pow]
  omega

/-- An address and the next one differ. -/
theorem Word.ne_succ (a : Word) : a ≠ a + 1 := by
  intro h
  have ha := a.isLt
  have := congrArg BitVec.toNat h
  simp [BitVec.toNat_add] at this
  omega

end Sys2Proof
end

