-- ==== Sys2Proof/Laws/Decode.lean ====
section
/-! SUPPORT. What the dispatch stages select (spec/30_encoding.md R91-R97), said once for every opcode byte. -/

namespace Sys2Proof

/-- A fact about every byte is a fact about the numbers below 256. -/
theorem Byte.forall_of_lt {P : Byte → Prop} (h : ∀ n < 256, P (BitVec.ofNat 8 n)) (v : Byte) : P v := by
  have := h v.toNat v.isLt
  simpa using this

/-- What the opcode byte `op` says of a template's instructions, whatever their operand: their bytes, their form, their length. -/
def Template.SelectedBy (op : Byte) (t : Template) : Prop :=
  match t with
  | .f1 i => encode i = [op] ∧ i.form = t.form ∧ opcodeLength op = 1
  | .f2 mk => (∀ v, encode (mk v) = [op, v] ∧ (mk v).form = t.form) ∧ opcodeLength op = 2
  | .f3 mk => (∀ v, encode (mk v) = encodeWord op v ∧ (mk v).form = t.form) ∧ opcodeLength op = 3

/-- Every opcode byte selects a template. -/
theorem dispatch_spec (op : Byte) : ∃ t, dispatch op = some t ∧ t.SelectedBy op := by
  revert op
  apply Byte.forall_of_lt
  intro n hn
  interval_cases n <;>
    exact ⟨_, rfl, by first | exact ⟨rfl, rfl, rfl⟩ | exact ⟨fun _ => ⟨rfl, rfl⟩, rfl⟩⟩

/-- The decoder by its opcode's template. -/
theorem decode_f1 {op : Byte} {i : Instr} (h : dispatch op = some (.f1 i)) (rest : List Byte) :
    decode (op :: rest) = .ok (i, rest) := by
  simp [decode, h]

theorem decode_f2 {op : Byte} {mk : Byte → Instr} (h : dispatch op = some (.f2 mk)) (v : Byte) (rest : List Byte) :
    decode (op :: v :: rest) = .ok (mk v, rest) := by
  simp [decode, h]

theorem decode_f3 {op : Byte} {mk : Word → Instr} (h : dispatch op = some (.f3 mk)) (lo hi : Byte) (rest : List Byte) :
    decode (op :: lo :: hi :: rest) = .ok (mk (Word.ofBytes hi lo), rest) := by
  simp [decode, h]

end Sys2Proof
end

