-- ==== Sys2Proof/Laws/Memory.lean ====
section
/-! SUPPORT. The laws of the host's memory (spec/20_memory.md R54-R56, R62): read after write, and the canonical form kept. -/

namespace Sys2Proof.Machine

/-! ## One byte -/

/-- A lower bound may be lowered. -/
theorem Memory.wfFrom_mono {lo lo' : Nat} {m : Memory} (h : lo' ≤ lo) (hm : Memory.wfFrom lo m = true) :
    Memory.wfFrom lo' m = true := by
  cases m with
  | nil => rfl
  | cons p m =>
    obtain ⟨k, v⟩ := p
    simp only [Memory.wfFrom, Bool.and_eq_true, decide_eq_true_eq] at hm ⊢
    exact ⟨⟨⟨by omega, hm.1.1.2⟩, hm.1.2⟩, hm.2⟩

/-- Below its lower bound a canonical memory lists nothing. -/
theorem Memory.get_below {lo a : Nat} {m : Memory} (hm : Memory.wfFrom lo m = true) (ha : a < lo) :
    Memory.get m a = Config.unwritten := by
  induction m generalizing lo with
  | nil => rfl
  | cons p m ih =>
    obtain ⟨k, v⟩ := p
    simp only [Memory.wfFrom, Bool.and_eq_true, decide_eq_true_eq] at hm
    have hk : a ≠ k := by omega
    simp only [Memory.get, hk, if_false]
    exact ih hm.2 (by omega)

theorem Memory.get_cons {k a : Nat} {v : Byte} {m : Memory} (hm : Memory.wfFrom (k + 1) m = true) :
    Memory.get (Memory.cons k v m) a = if a = k then v else Memory.get m a := by
  unfold Memory.cons
  split
  · rename_i hv
    split
    · rename_i h; rw [h, hv]; exact Memory.get_below hm (by omega)
    · rfl
  · rfl

theorem Memory.wfFrom_cons {lo k : Nat} {v : Byte} {m : Memory} (hlo : lo ≤ k) (hk : k < 65536)
    (hm : Memory.wfFrom (k + 1) m = true) : Memory.wfFrom lo (Memory.cons k v m) = true := by
  unfold Memory.cons
  split
  · exact Memory.wfFrom_mono (by omega) hm
  · rename_i hv; simp [Memory.wfFrom, hlo, hk, hv, hm]

/-- Storing a byte keeps the canonical form. -/
theorem Memory.wfFrom_put {lo a : Nat} {v : Byte} {m : Memory} (hlo : lo ≤ a) (ha : a < 65536)
    (hm : Memory.wfFrom lo m = true) : Memory.wfFrom lo (Memory.put m a v) = true := by
  induction m generalizing lo with
  | nil => exact Memory.wfFrom_cons hlo ha rfl
  | cons p m ih =>
    obtain ⟨k, x⟩ := p
    have hm' := hm
    simp only [Memory.wfFrom, Bool.and_eq_true, decide_eq_true_eq] at hm'
    simp only [Memory.put]
    split
    · exact Memory.wfFrom_cons hlo ha (by simp [Memory.wfFrom, hm'.1.1.2, hm'.1.2, hm'.2]; omega)
    · split
      · rename_i h; subst h; exact Memory.wfFrom_cons hlo ha hm'.2
      · simp only [Memory.wfFrom, Bool.and_eq_true, decide_eq_true_eq]
        exact ⟨hm'.1, ih (by omega) hm'.2⟩

/-- What every address reads as after a byte is stored in a canonical memory. -/
theorem Memory.get_put {lo a : Nat} {v : Byte} {m : Memory} (hm : Memory.wfFrom lo m = true) (x : Nat) :
    Memory.get (Memory.put m a v) x = if x = a then v else Memory.get m x := by
  induction m generalizing lo with
  | nil => exact Memory.get_cons rfl
  | cons p m ih =>
    obtain ⟨k, y⟩ := p
    have hm' := hm
    simp only [Memory.wfFrom, Bool.and_eq_true, decide_eq_true_eq] at hm'
    simp only [Memory.put]
    split
    · rw [Memory.get_cons (by simp [Memory.wfFrom, hm'.1.1.2, hm'.1.2, hm'.2]; omega)]
    · split
      · rename_i h
        subst h
        rw [Memory.get_cons hm'.2]
        split
        · rfl
        · rename_i hx; simp [Memory.get, hx]
      · rename_i hka
        simp only [Memory.get]
        split
        · rename_i hx
          have : ¬x = a := by omega
          simp [this]
        · exact ih hm'.2

/-- Another address reads as before, in any memory. -/
theorem Memory.get_put_ne {a x : Nat} {v : Byte} (m : Memory) (h : x ≠ a) :
    Memory.get (Memory.put m a v) x = Memory.get m x := by
  have hcons : ∀ m : Memory, Memory.get (Memory.cons a v m) x = Memory.get m x := by
    intro m
    unfold Memory.cons
    split
    · rfl
    · simp [Memory.get, h]
  induction m with
  | nil => exact hcons []
  | cons p m ih =>
    obtain ⟨k, y⟩ := p
    simp only [Memory.put]
    split
    · exact hcons _
    · split
      · rename_i h'; subst h'; rw [hcons]; simp [Memory.get, h]
      · simp only [Memory.get, ih]

/-- A canonical memory is what its addresses read as: two that read alike are equal. -/
theorem Memory.eq_of_get {lo : Nat} {m m' : Memory} (hm : Memory.wfFrom lo m = true) (hm' : Memory.wfFrom lo m' = true)
    (h : ∀ x, Memory.get m x = Memory.get m' x) : m = m' := by
  induction m generalizing lo m' with
  | nil =>
    cases m' with
    | nil => rfl
    | cons p m' =>
      obtain ⟨k, v⟩ := p
      simp only [Memory.wfFrom, Bool.and_eq_true, decide_eq_true_eq] at hm'
      have := h k
      simp [Memory.get] at this
      exact absurd this.symm hm'.1.2
  | cons p m ih =>
    obtain ⟨k, v⟩ := p
    simp only [Memory.wfFrom, Bool.and_eq_true, decide_eq_true_eq] at hm
    cases m' with
    | nil =>
      have := h k
      simp [Memory.get] at this
      exact absurd this hm.1.2
    | cons q m' =>
      obtain ⟨k', v'⟩ := q
      simp only [Memory.wfFrom, Bool.and_eq_true, decide_eq_true_eq] at hm'
      have hk : k = k' := by
        rcases Nat.lt_trichotomy k k' with hlt | heq | hgt
        · have := h k
          have hne : k ≠ k' := by omega
          simp only [Memory.get, if_true, hne, if_false] at this
          rw [Memory.get_below hm'.2 (by omega)] at this
          exact absurd this hm.1.2
        · exact heq
        · have := h k'
          have hne : k' ≠ k := by omega
          simp only [Memory.get, if_true, hne, if_false] at this
          rw [Memory.get_below hm.2 (by omega)] at this
          exact absurd this.symm hm'.1.2
      subst hk
      have hv : v = v' := by simpa [Memory.get] using h k
      subst hv
      congr 1
      refine ih hm.2 hm'.2 fun x => ?_
      by_cases hx : x = k
      · subst hx; rw [Memory.get_below hm.2 (by omega), Memory.get_below hm'.2 (by omega)]
      · simpa [Memory.get, hx] using h x

/-! ## Bytes and words of the 16-bit space -/

theorem Word.toNat_ne_iff {x a : Word} : x.toNat ≠ a.toNat ↔ x ≠ a := by
  simp [BitVec.toNat_inj]

theorem Memory.wf_writeByte {m : Memory} (hm : Memory.wf m = true) (a : Word) (v : Byte) :
    Memory.wf (Memory.writeByte m a v) = true :=
  Memory.wfFrom_put (Nat.zero_le _) a.isLt hm

theorem Memory.wf_writeWord {m : Memory} (hm : Memory.wf m = true) (a v : Word) :
    Memory.wf (Memory.writeWord m a v) = true :=
  Memory.wf_writeByte (Memory.wf_writeByte hm a _) _ _

theorem Memory.readByte_writeByte {m : Memory} (hm : Memory.wf m = true) (a x : Word) (v : Byte) :
    Memory.readByte (Memory.writeByte m a v) x = if x = a then v else Memory.readByte m x := by
  unfold Memory.readByte Memory.writeByte
  rw [Memory.get_put hm]
  simp [BitVec.toNat_inj]

theorem Memory.readByte_writeByte_ne (m : Memory) {a x : Word} (v : Byte) (h : x ≠ a) :
    Memory.readByte (Memory.writeByte m a v) x = Memory.readByte m x :=
  Memory.get_put_ne m (Word.toNat_ne_iff.mpr h)

theorem Memory.readByte_writeWord_ne (m : Memory) {a x : Word} (v : Word) (h : x ≠ a) (h' : x ≠ a + 1) :
    Memory.readByte (Memory.writeWord m a v) x = Memory.readByte m x := by
  unfold Memory.writeWord
  rw [Memory.readByte_writeByte_ne _ _ h', Memory.readByte_writeByte_ne _ _ h]

end Sys2Proof.Machine
end

