-- ==== Sys2Proof/Laws/State.lean ====
section
/-! SUPPORT. One lemma for each field after each named update of the state, true by rfl, so that no proof unfolds a record update. -/

namespace Sys2Proof.Machine

variable (s : State) (x : Word) (v : Byte) (w : Word) (t : Transaction)

@[simp] theorem State.issue_a : (s.issue t).a = s.a := rfl
@[simp] theorem State.issue_b : (s.issue t).b = s.b := rfl
@[simp] theorem State.issue_c : (s.issue t).c = s.c := rfl
@[simp] theorem State.issue_d : (s.issue t).d = s.d := rfl
@[simp] theorem State.issue_e : (s.issue t).e = s.e := rfl
@[simp] theorem State.issue_h : (s.issue t).h = s.h := rfl
@[simp] theorem State.issue_l : (s.issue t).l = s.l := rfl
@[simp] theorem State.issue_sp : (s.issue t).sp = s.sp := rfl
@[simp] theorem State.issue_pc : (s.issue t).pc = s.pc := rfl
@[simp] theorem State.issue_flags : (s.issue t).flags = s.flags := rfl
@[simp] theorem State.issue_iff : (s.issue t).iff = s.iff := rfl
@[simp] theorem State.issue_lastPC : (s.issue t).lastPC = s.lastPC := rfl
@[simp] theorem State.issue_mem : (s.issue t).mem = s.mem := rfl
@[simp] theorem State.issue_trace : (s.issue t).trace = t :: s.trace := rfl
@[simp] theorem State.issue_cycles : (s.issue t).cycles = s.cycles := rfl
@[simp] theorem State.issue_portAnswers : (s.issue t).portAnswers = s.portAnswers := rfl
@[simp] theorem State.issue_portDraws : (s.issue t).portDraws = s.portDraws := rfl

@[simp] theorem State.memReadByte_a : ((s.memReadByte x).2).a = s.a := rfl
@[simp] theorem State.memReadByte_b : ((s.memReadByte x).2).b = s.b := rfl
@[simp] theorem State.memReadByte_c : ((s.memReadByte x).2).c = s.c := rfl
@[simp] theorem State.memReadByte_d : ((s.memReadByte x).2).d = s.d := rfl
@[simp] theorem State.memReadByte_e : ((s.memReadByte x).2).e = s.e := rfl
@[simp] theorem State.memReadByte_h : ((s.memReadByte x).2).h = s.h := rfl
@[simp] theorem State.memReadByte_l : ((s.memReadByte x).2).l = s.l := rfl
@[simp] theorem State.memReadByte_sp : ((s.memReadByte x).2).sp = s.sp := rfl
@[simp] theorem State.memReadByte_pc : ((s.memReadByte x).2).pc = s.pc := rfl
@[simp] theorem State.memReadByte_flags : ((s.memReadByte x).2).flags = s.flags := rfl
@[simp] theorem State.memReadByte_iff : ((s.memReadByte x).2).iff = s.iff := rfl
@[simp] theorem State.memReadByte_lastPC : ((s.memReadByte x).2).lastPC = s.lastPC := rfl
@[simp] theorem State.memReadByte_mem : ((s.memReadByte x).2).mem = s.mem := rfl
@[simp] theorem State.memReadByte_trace : ((s.memReadByte x).2).trace = .memReadByte x (s.byteAt x) :: s.trace := rfl
@[simp] theorem State.memReadByte_cycles : ((s.memReadByte x).2).cycles = s.cycles := rfl
@[simp] theorem State.memReadByte_portAnswers : ((s.memReadByte x).2).portAnswers = s.portAnswers := rfl
@[simp] theorem State.memReadByte_portDraws : ((s.memReadByte x).2).portDraws = s.portDraws := rfl

@[simp] theorem State.memReadWord_a : ((s.memReadWord x).2).a = s.a := rfl
@[simp] theorem State.memReadWord_b : ((s.memReadWord x).2).b = s.b := rfl
@[simp] theorem State.memReadWord_c : ((s.memReadWord x).2).c = s.c := rfl
@[simp] theorem State.memReadWord_d : ((s.memReadWord x).2).d = s.d := rfl
@[simp] theorem State.memReadWord_e : ((s.memReadWord x).2).e = s.e := rfl
@[simp] theorem State.memReadWord_h : ((s.memReadWord x).2).h = s.h := rfl
@[simp] theorem State.memReadWord_l : ((s.memReadWord x).2).l = s.l := rfl
@[simp] theorem State.memReadWord_sp : ((s.memReadWord x).2).sp = s.sp := rfl
@[simp] theorem State.memReadWord_pc : ((s.memReadWord x).2).pc = s.pc := rfl
@[simp] theorem State.memReadWord_flags : ((s.memReadWord x).2).flags = s.flags := rfl
@[simp] theorem State.memReadWord_iff : ((s.memReadWord x).2).iff = s.iff := rfl
@[simp] theorem State.memReadWord_lastPC : ((s.memReadWord x).2).lastPC = s.lastPC := rfl
@[simp] theorem State.memReadWord_mem : ((s.memReadWord x).2).mem = s.mem := rfl
@[simp] theorem State.memReadWord_trace : ((s.memReadWord x).2).trace = .memReadWord x (s.wordAt x) :: s.trace := rfl
@[simp] theorem State.memReadWord_cycles : ((s.memReadWord x).2).cycles = s.cycles := rfl
@[simp] theorem State.memReadWord_portAnswers : ((s.memReadWord x).2).portAnswers = s.portAnswers := rfl
@[simp] theorem State.memReadWord_portDraws : ((s.memReadWord x).2).portDraws = s.portDraws := rfl

@[simp] theorem State.memWriteByte_a : (s.memWriteByte x v).a = s.a := rfl
@[simp] theorem State.memWriteByte_b : (s.memWriteByte x v).b = s.b := rfl
@[simp] theorem State.memWriteByte_c : (s.memWriteByte x v).c = s.c := rfl
@[simp] theorem State.memWriteByte_d : (s.memWriteByte x v).d = s.d := rfl
@[simp] theorem State.memWriteByte_e : (s.memWriteByte x v).e = s.e := rfl
@[simp] theorem State.memWriteByte_h : (s.memWriteByte x v).h = s.h := rfl
@[simp] theorem State.memWriteByte_l : (s.memWriteByte x v).l = s.l := rfl
@[simp] theorem State.memWriteByte_sp : (s.memWriteByte x v).sp = s.sp := rfl
@[simp] theorem State.memWriteByte_pc : (s.memWriteByte x v).pc = s.pc := rfl
@[simp] theorem State.memWriteByte_flags : (s.memWriteByte x v).flags = s.flags := rfl
@[simp] theorem State.memWriteByte_iff : (s.memWriteByte x v).iff = s.iff := rfl
@[simp] theorem State.memWriteByte_lastPC : (s.memWriteByte x v).lastPC = s.lastPC := rfl
@[simp] theorem State.memWriteByte_mem : (s.memWriteByte x v).mem = Memory.writeByte s.mem x v := rfl
@[simp] theorem State.memWriteByte_trace : (s.memWriteByte x v).trace = .memWriteByte x v :: s.trace := rfl
@[simp] theorem State.memWriteByte_cycles : (s.memWriteByte x v).cycles = s.cycles := rfl
@[simp] theorem State.memWriteByte_portAnswers : (s.memWriteByte x v).portAnswers = s.portAnswers := rfl
@[simp] theorem State.memWriteByte_portDraws : (s.memWriteByte x v).portDraws = s.portDraws := rfl

@[simp] theorem State.memWriteWord_a : (s.memWriteWord x w).a = s.a := rfl
@[simp] theorem State.memWriteWord_b : (s.memWriteWord x w).b = s.b := rfl
@[simp] theorem State.memWriteWord_c : (s.memWriteWord x w).c = s.c := rfl
@[simp] theorem State.memWriteWord_d : (s.memWriteWord x w).d = s.d := rfl
@[simp] theorem State.memWriteWord_e : (s.memWriteWord x w).e = s.e := rfl
@[simp] theorem State.memWriteWord_h : (s.memWriteWord x w).h = s.h := rfl
@[simp] theorem State.memWriteWord_l : (s.memWriteWord x w).l = s.l := rfl
@[simp] theorem State.memWriteWord_sp : (s.memWriteWord x w).sp = s.sp := rfl
@[simp] theorem State.memWriteWord_pc : (s.memWriteWord x w).pc = s.pc := rfl
@[simp] theorem State.memWriteWord_flags : (s.memWriteWord x w).flags = s.flags := rfl
@[simp] theorem State.memWriteWord_iff : (s.memWriteWord x w).iff = s.iff := rfl
@[simp] theorem State.memWriteWord_lastPC : (s.memWriteWord x w).lastPC = s.lastPC := rfl
@[simp] theorem State.memWriteWord_mem : (s.memWriteWord x w).mem = Memory.writeWord s.mem x w := rfl
@[simp] theorem State.memWriteWord_trace : (s.memWriteWord x w).trace = .memWriteWord x w :: s.trace := rfl
@[simp] theorem State.memWriteWord_cycles : (s.memWriteWord x w).cycles = s.cycles := rfl
@[simp] theorem State.memWriteWord_portAnswers : (s.memWriteWord x w).portAnswers = s.portAnswers := rfl
@[simp] theorem State.memWriteWord_portDraws : (s.memWriteWord x w).portDraws = s.portDraws := rfl

@[simp] theorem State.push_a : (s.push w).a = s.a := rfl
@[simp] theorem State.push_b : (s.push w).b = s.b := rfl
@[simp] theorem State.push_c : (s.push w).c = s.c := rfl
@[simp] theorem State.push_d : (s.push w).d = s.d := rfl
@[simp] theorem State.push_e : (s.push w).e = s.e := rfl
@[simp] theorem State.push_h : (s.push w).h = s.h := rfl
@[simp] theorem State.push_l : (s.push w).l = s.l := rfl
@[simp] theorem State.push_sp : (s.push w).sp = s.sp - 2 := rfl
@[simp] theorem State.push_pc : (s.push w).pc = s.pc := rfl
@[simp] theorem State.push_flags : (s.push w).flags = s.flags := rfl
@[simp] theorem State.push_iff : (s.push w).iff = s.iff := rfl
@[simp] theorem State.push_lastPC : (s.push w).lastPC = s.lastPC := rfl
@[simp] theorem State.push_mem : (s.push w).mem = Memory.writeWord s.mem (s.sp - 2) w := rfl
@[simp] theorem State.push_trace : (s.push w).trace = .memWriteWord (s.sp - 2) w :: s.trace := rfl
@[simp] theorem State.push_cycles : (s.push w).cycles = s.cycles := rfl
@[simp] theorem State.push_portAnswers : (s.push w).portAnswers = s.portAnswers := rfl
@[simp] theorem State.push_portDraws : (s.push w).portDraws = s.portDraws := rfl

@[simp] theorem State.pop_a : (s.pop.2).a = s.a := rfl
@[simp] theorem State.pop_b : (s.pop.2).b = s.b := rfl
@[simp] theorem State.pop_c : (s.pop.2).c = s.c := rfl
@[simp] theorem State.pop_d : (s.pop.2).d = s.d := rfl
@[simp] theorem State.pop_e : (s.pop.2).e = s.e := rfl
@[simp] theorem State.pop_h : (s.pop.2).h = s.h := rfl
@[simp] theorem State.pop_l : (s.pop.2).l = s.l := rfl
@[simp] theorem State.pop_sp : (s.pop.2).sp = s.sp + 2 := rfl
@[simp] theorem State.pop_pc : (s.pop.2).pc = s.pc := rfl
@[simp] theorem State.pop_flags : (s.pop.2).flags = s.flags := rfl
@[simp] theorem State.pop_iff : (s.pop.2).iff = s.iff := rfl
@[simp] theorem State.pop_lastPC : (s.pop.2).lastPC = s.lastPC := rfl
@[simp] theorem State.pop_mem : (s.pop.2).mem = s.mem := rfl
@[simp] theorem State.pop_trace : (s.pop.2).trace = .memReadWord s.sp (s.wordAt s.sp) :: s.trace := rfl
@[simp] theorem State.pop_cycles : (s.pop.2).cycles = s.cycles := rfl
@[simp] theorem State.pop_portAnswers : (s.pop.2).portAnswers = s.portAnswers := rfl
@[simp] theorem State.pop_portDraws : (s.pop.2).portDraws = s.portDraws := rfl

@[simp] theorem State.fetchByte_a : (s.fetchByte.2).a = s.a := rfl
@[simp] theorem State.fetchByte_b : (s.fetchByte.2).b = s.b := rfl
@[simp] theorem State.fetchByte_c : (s.fetchByte.2).c = s.c := rfl
@[simp] theorem State.fetchByte_d : (s.fetchByte.2).d = s.d := rfl
@[simp] theorem State.fetchByte_e : (s.fetchByte.2).e = s.e := rfl
@[simp] theorem State.fetchByte_h : (s.fetchByte.2).h = s.h := rfl
@[simp] theorem State.fetchByte_l : (s.fetchByte.2).l = s.l := rfl
@[simp] theorem State.fetchByte_sp : (s.fetchByte.2).sp = s.sp := rfl
@[simp] theorem State.fetchByte_pc : (s.fetchByte.2).pc = s.pc + 1 := rfl
@[simp] theorem State.fetchByte_flags : (s.fetchByte.2).flags = s.flags := rfl
@[simp] theorem State.fetchByte_iff : (s.fetchByte.2).iff = s.iff := rfl
@[simp] theorem State.fetchByte_lastPC : (s.fetchByte.2).lastPC = s.lastPC := rfl
@[simp] theorem State.fetchByte_mem : (s.fetchByte.2).mem = s.mem := rfl
@[simp] theorem State.fetchByte_trace : (s.fetchByte.2).trace = .memReadByte s.pc (s.byteAt s.pc) :: s.trace := rfl
@[simp] theorem State.fetchByte_cycles : (s.fetchByte.2).cycles = s.cycles := rfl
@[simp] theorem State.fetchByte_portAnswers : (s.fetchByte.2).portAnswers = s.portAnswers := rfl
@[simp] theorem State.fetchByte_portDraws : (s.fetchByte.2).portDraws = s.portDraws := rfl

@[simp] theorem State.fetchWord_a : (s.fetchWord.2).a = s.a := rfl
@[simp] theorem State.fetchWord_b : (s.fetchWord.2).b = s.b := rfl
@[simp] theorem State.fetchWord_c : (s.fetchWord.2).c = s.c := rfl
@[simp] theorem State.fetchWord_d : (s.fetchWord.2).d = s.d := rfl
@[simp] theorem State.fetchWord_e : (s.fetchWord.2).e = s.e := rfl
@[simp] theorem State.fetchWord_h : (s.fetchWord.2).h = s.h := rfl
@[simp] theorem State.fetchWord_l : (s.fetchWord.2).l = s.l := rfl
@[simp] theorem State.fetchWord_sp : (s.fetchWord.2).sp = s.sp := rfl
@[simp] theorem State.fetchWord_pc : (s.fetchWord.2).pc = s.pc + 2 := rfl
@[simp] theorem State.fetchWord_flags : (s.fetchWord.2).flags = s.flags := rfl
@[simp] theorem State.fetchWord_iff : (s.fetchWord.2).iff = s.iff := rfl
@[simp] theorem State.fetchWord_lastPC : (s.fetchWord.2).lastPC = s.lastPC := rfl
@[simp] theorem State.fetchWord_mem : (s.fetchWord.2).mem = s.mem := rfl
@[simp] theorem State.fetchWord_trace : (s.fetchWord.2).trace = .memReadWord s.pc (s.wordAt s.pc) :: s.trace := rfl
@[simp] theorem State.fetchWord_cycles : (s.fetchWord.2).cycles = s.cycles := rfl
@[simp] theorem State.fetchWord_portAnswers : (s.fetchWord.2).portAnswers = s.portAnswers := rfl
@[simp] theorem State.fetchWord_portDraws : (s.fetchWord.2).portDraws = s.portDraws := rfl

@[simp] theorem State.memReadByte_value : (s.memReadByte x).1 = s.byteAt x := rfl
@[simp] theorem State.memReadWord_value : (s.memReadWord x).1 = s.wordAt x := rfl
@[simp] theorem State.pop_value : s.pop.1 = s.wordAt s.sp := rfl
@[simp] theorem State.fetchByte_value : s.fetchByte.1 = s.byteAt s.pc := rfl
@[simp] theorem State.fetchWord_value : s.fetchWord.1 = s.wordAt s.pc := rfl
@[simp] theorem State.incOp_value : (s.incOp v).1 = Word.lo (wideAdd v 1 false) := rfl
@[simp] theorem State.decOp_value : (s.decOp v).1 = Word.lo (wideSub v 1 false) := rfl

/-- Reading memory depends on memory alone. -/
theorem State.byteAt_congr {s t : State} (h : t.mem = s.mem) (x : Word) : t.byteAt x = s.byteAt x := by
  simp [State.byteAt, h]

theorem State.wordAt_congr {s t : State} (h : t.mem = s.mem) (x : Word) : t.wordAt x = s.wordAt x := by
  simp [State.wordAt, h]

/-! ## What a write through a selector leaves alone -/

variable (r : Reg8) (p : Pair)

@[simp] theorem State.setReg8_sp : (s.setReg8 r v).sp = s.sp := by cases r <;> rfl
@[simp] theorem State.setReg8_pc : (s.setReg8 r v).pc = s.pc := by cases r <;> rfl
@[simp] theorem State.setReg8_flags : (s.setReg8 r v).flags = s.flags := by cases r <;> rfl
@[simp] theorem State.setReg8_iff : (s.setReg8 r v).iff = s.iff := by cases r <;> rfl
@[simp] theorem State.setReg8_lastPC : (s.setReg8 r v).lastPC = s.lastPC := by cases r <;> rfl
@[simp] theorem State.setReg8_cycles : (s.setReg8 r v).cycles = s.cycles := by cases r <;> rfl
@[simp] theorem State.setReg8_portAnswers : (s.setReg8 r v).portAnswers = s.portAnswers := by cases r <;> rfl
@[simp] theorem State.setReg8_portDraws : (s.setReg8 r v).portDraws = s.portDraws := by cases r <;> rfl
@[simp] theorem State.setPair_a : (s.setPair p w).a = s.a := by cases p <;> rfl
@[simp] theorem State.setPair_pc : (s.setPair p w).pc = s.pc := by cases p <;> rfl
@[simp] theorem State.setPair_flags : (s.setPair p w).flags = s.flags := by cases p <;> rfl
@[simp] theorem State.setPair_iff : (s.setPair p w).iff = s.iff := by cases p <;> rfl
@[simp] theorem State.setPair_lastPC : (s.setPair p w).lastPC = s.lastPC := by cases p <;> rfl
@[simp] theorem State.setPair_mem : (s.setPair p w).mem = s.mem := by cases p <;> rfl
@[simp] theorem State.setPair_trace : (s.setPair p w).trace = s.trace := by cases p <;> rfl
@[simp] theorem State.setPair_cycles : (s.setPair p w).cycles = s.cycles := by cases p <;> rfl
@[simp] theorem State.setPair_portAnswers : (s.setPair p w).portAnswers = s.portAnswers := by cases p <;> rfl
@[simp] theorem State.setPair_portDraws : (s.setPair p w).portDraws = s.portDraws := by cases p <;> rfl
@[simp] theorem State.afterReg8_a : (s.afterReg8 r).a = s.a := by cases r <;> rfl
@[simp] theorem State.afterReg8_b : (s.afterReg8 r).b = s.b := by cases r <;> rfl
@[simp] theorem State.afterReg8_c : (s.afterReg8 r).c = s.c := by cases r <;> rfl
@[simp] theorem State.afterReg8_d : (s.afterReg8 r).d = s.d := by cases r <;> rfl
@[simp] theorem State.afterReg8_e : (s.afterReg8 r).e = s.e := by cases r <;> rfl
@[simp] theorem State.afterReg8_h : (s.afterReg8 r).h = s.h := by cases r <;> rfl
@[simp] theorem State.afterReg8_l : (s.afterReg8 r).l = s.l := by cases r <;> rfl
@[simp] theorem State.afterReg8_sp : (s.afterReg8 r).sp = s.sp := by cases r <;> rfl
@[simp] theorem State.afterReg8_pc : (s.afterReg8 r).pc = s.pc := by cases r <;> rfl
@[simp] theorem State.afterReg8_flags : (s.afterReg8 r).flags = s.flags := by cases r <;> rfl
@[simp] theorem State.afterReg8_iff : (s.afterReg8 r).iff = s.iff := by cases r <;> rfl
@[simp] theorem State.afterReg8_lastPC : (s.afterReg8 r).lastPC = s.lastPC := by cases r <;> rfl
@[simp] theorem State.afterReg8_mem : (s.afterReg8 r).mem = s.mem := by cases r <;> rfl
@[simp] theorem State.afterReg8_cycles : (s.afterReg8 r).cycles = s.cycles := by cases r <;> rfl
@[simp] theorem State.afterReg8_portAnswers : (s.afterReg8 r).portAnswers = s.portAnswers := by cases r <;> rfl
@[simp] theorem State.afterReg8_portDraws : (s.afterReg8 r).portDraws = s.portDraws := by cases r <;> rfl

/-! ## What an ALU operation leaves alone -/

variable (op : AluOp)

@[simp] theorem State.aluOp_b : (s.aluOp op v).b = s.b := by cases op <;> rfl
@[simp] theorem State.aluOp_c : (s.aluOp op v).c = s.c := by cases op <;> rfl
@[simp] theorem State.aluOp_d : (s.aluOp op v).d = s.d := by cases op <;> rfl
@[simp] theorem State.aluOp_e : (s.aluOp op v).e = s.e := by cases op <;> rfl
@[simp] theorem State.aluOp_h : (s.aluOp op v).h = s.h := by cases op <;> rfl
@[simp] theorem State.aluOp_l : (s.aluOp op v).l = s.l := by cases op <;> rfl
@[simp] theorem State.aluOp_sp : (s.aluOp op v).sp = s.sp := by cases op <;> rfl
@[simp] theorem State.aluOp_pc : (s.aluOp op v).pc = s.pc := by cases op <;> rfl
@[simp] theorem State.aluOp_iff : (s.aluOp op v).iff = s.iff := by cases op <;> rfl
@[simp] theorem State.aluOp_lastPC : (s.aluOp op v).lastPC = s.lastPC := by cases op <;> rfl
@[simp] theorem State.aluOp_mem : (s.aluOp op v).mem = s.mem := by cases op <;> rfl
@[simp] theorem State.aluOp_trace : (s.aluOp op v).trace = s.trace := by cases op <;> rfl
@[simp] theorem State.aluOp_cycles : (s.aluOp op v).cycles = s.cycles := by cases op <;> rfl
@[simp] theorem State.aluOp_portAnswers : (s.aluOp op v).portAnswers = s.portAnswers := by cases op <;> rfl
@[simp] theorem State.aluOp_portDraws : (s.aluOp op v).portDraws = s.portDraws := by cases op <;> rfl
@[simp] theorem State.daaOp_b : s.daaOp.b = s.b := rfl
@[simp] theorem State.daaOp_c : s.daaOp.c = s.c := rfl
@[simp] theorem State.daaOp_d : s.daaOp.d = s.d := rfl
@[simp] theorem State.daaOp_e : s.daaOp.e = s.e := rfl
@[simp] theorem State.daaOp_h : s.daaOp.h = s.h := rfl
@[simp] theorem State.daaOp_l : s.daaOp.l = s.l := rfl
@[simp] theorem State.daaOp_sp : s.daaOp.sp = s.sp := rfl
@[simp] theorem State.daaOp_pc : s.daaOp.pc = s.pc := rfl
@[simp] theorem State.daaOp_iff : s.daaOp.iff = s.iff := rfl
@[simp] theorem State.daaOp_lastPC : s.daaOp.lastPC = s.lastPC := rfl
@[simp] theorem State.daaOp_mem : s.daaOp.mem = s.mem := rfl
@[simp] theorem State.daaOp_trace : s.daaOp.trace = s.trace := rfl
@[simp] theorem State.daaOp_cycles : s.daaOp.cycles = s.cycles := rfl
@[simp] theorem State.daaOp_portAnswers : s.daaOp.portAnswers = s.portAnswers := rfl
@[simp] theorem State.daaOp_portDraws : s.daaOp.portDraws = s.portDraws := rfl
@[simp] theorem State.dadOp_a : (s.dadOp w).a = s.a := rfl
@[simp] theorem State.dadOp_b : (s.dadOp w).b = s.b := rfl
@[simp] theorem State.dadOp_c : (s.dadOp w).c = s.c := rfl
@[simp] theorem State.dadOp_d : (s.dadOp w).d = s.d := rfl
@[simp] theorem State.dadOp_e : (s.dadOp w).e = s.e := rfl
@[simp] theorem State.dadOp_sp : (s.dadOp w).sp = s.sp := rfl
@[simp] theorem State.dadOp_pc : (s.dadOp w).pc = s.pc := rfl
@[simp] theorem State.dadOp_iff : (s.dadOp w).iff = s.iff := rfl
@[simp] theorem State.dadOp_lastPC : (s.dadOp w).lastPC = s.lastPC := rfl
@[simp] theorem State.dadOp_mem : (s.dadOp w).mem = s.mem := rfl
@[simp] theorem State.dadOp_trace : (s.dadOp w).trace = s.trace := rfl
@[simp] theorem State.dadOp_cycles : (s.dadOp w).cycles = s.cycles := rfl
@[simp] theorem State.dadOp_portAnswers : (s.dadOp w).portAnswers = s.portAnswers := rfl
@[simp] theorem State.dadOp_portDraws : (s.dadOp w).portDraws = s.portDraws := rfl

/-! ## Returning the count -/

/-- A step returns its count exactly where the instruction answers a next state. -/
theorem returnCycles_next {k : Nat} {res : Result} {t : State} (h : returnCycles k res = .next t) :
    ∃ u, res = .next u ∧ t = { u with cycles := k } := by
  cases res with
  | next u => simp only [returnCycles, Host.Outcome.next.injEq] at h; exact ⟨u, rfl, h.symm⟩
  | fault _ => simp [returnCycles] at h
  | refused _ => simp [returnCycles] at h

@[simp] theorem returnCycles_of_next (k : Nat) (u : State) : returnCycles k (.next u) = .next { u with cycles := k } := rfl

end Sys2Proof.Machine
end

