-- ==== Sys2Proof/Laws/Fetch.lean ====
section
/-! SUPPORT. Fetching an instruction: the machine's byte-by-byte fetch is the decoder's reading of the bytes at PC. -/

namespace Sys2Proof.Machine

/-- The fetch always finds an instruction. It is the one that the decoder reads at PC, it stands under the opcode byte there, and
the state after it is `fetched`. -/
theorem State.fetch_spec (s : State) :
    ∃ i rest, s.fetch = some (i, s.fetched i.length) ∧ decode s.fetchWindow = .ok (i, rest) ∧
      (encode i).head? = some (s.byteAt s.pc) ∧ (dispatch (s.byteAt s.pc)).map Template.form = some i.form := by
  obtain ⟨t, ht, hsel⟩ := dispatch_spec (s.byteAt s.pc)
  cases t with
  | f1 i =>
    refine ⟨i, _, ?_, decode_f1 ht _, by rw [hsel.1]; rfl, by rw [ht, Option.map_some, hsel.2.1]⟩
    simp only [State.fetch, State.fetchByte_value, ht, Instr.length, hsel.1]
    rfl
  | f2 mk =>
    have hv := hsel.1 (s.byteAt (s.pc + 1))
    refine ⟨mk (s.byteAt (s.pc + 1)), _, ?_, decode_f2 ht _ _, by rw [hv.1]; rfl, by rw [ht, Option.map_some, hv.2]⟩
    have hb : s.fetchByte.2.byteAt (s.pc + 1) = s.byteAt (s.pc + 1) := rfl
    simp only [State.fetch, State.fetchByte_value, ht, Instr.length, hv.1, State.fetchByte_pc, hb]
    simp [State.fetched, State.fetchReads, State.fetchByte, State.memReadByte, State.issue, State.byteAt, BitVec.add_assoc]
  | f3 mk =>
    have hv := hsel.1 (s.wordAt (s.pc + 1))
    refine ⟨mk (s.wordAt (s.pc + 1)), [], ?_, ?_, by rw [hv.1]; rfl, by rw [ht, Option.map_some, hv.2]⟩
    · have hb : s.fetchByte.2.wordAt (s.pc + 1) = s.wordAt (s.pc + 1) := rfl
      simp only [State.fetch, State.fetchByte_value, ht, Instr.length, hv.1, State.fetchWord_value, State.fetchByte_pc, hb]
      simp [State.fetched, State.fetchReads, State.fetchWord, State.memReadWord, State.fetchByte, State.memReadByte,
        State.issue, State.byteAt, State.wordAt, BitVec.add_assoc, encodeWord]
    · rw [State.fetchWindow, decode_f3 ht]
      simp [State.wordAt, State.byteAt, Memory.readWord, BitVec.add_assoc]

/-- What a step does: it runs the instruction at PC in the state after the fetch and returns the count. -/
theorem stepWith_spec (T : CycleTable) (s : State) :
    ∃ i rest, decode s.fetchWindow = .ok (i, rest) ∧ (encode i).head? = some (s.byteAt s.pc) ∧
      (dispatch (s.byteAt s.pc)).map Template.form = some i.form ∧
      stepWith T s = returnCycles (T (s.byteAt s.pc) (conditionTaken i s.flags)) (exec i (s.fetched i.length)) := by
  obtain ⟨i, rest, hf, hd, he, hform⟩ := s.fetch_spec
  exact ⟨i, rest, hd, he, hform, by simp [stepWith, hf]⟩

/-- A completed step comes from the completed instruction. -/
theorem stepWith_next {T : CycleTable} {s t : State} (h : stepWith T s = .next t) :
    ∃ i u rest, decode s.fetchWindow = .ok (i, rest) ∧ exec i (s.fetched i.length) = .next u ∧
      t = { u with cycles := T (s.byteAt s.pc) (conditionTaken i s.flags) } := by
  obtain ⟨i, rest, hd, -, -, hs⟩ := stepWith_spec T s
  obtain ⟨u, hu, ht⟩ := returnCycles_next (hs.symm.trans h)
  exact ⟨i, u, rest, hd, hu, ht⟩

end Sys2Proof.Machine
end

