-- ==== Sys2Proof/Laws/Flags.lean ====
section
/-! SUPPORT. The widened sums and differences of spec/40_alu_ops.md as numbers, so that no proof unfolds them. -/

namespace Sys2Proof.Machine

theorem carryBit_toNat (c : Bool) : (carryBit c).toNat = c.toNat := by
  cases c <;> rfl

/-- Bit `k` of a value, as arithmetic. -/
theorem getLsbD_eq_decide {n : Nat} (v : BitVec n) (k : Nat) : v.getLsbD k = decide (v.toNat / 2 ^ k % 2 = 1) := by
  rw [BitVec.getLsbD, Nat.testBit_eq_decide_div_mod_eq]

/-- The widened sum never wraps (R116). -/
theorem wideAdd_toNat (a v : Byte) (cin : Bool) : (wideAdd a v cin).toNat = a.toNat + v.toNat + cin.toNat := by
  have ha := a.isLt
  have hv := v.isLt
  have hc := cin.toNat_le
  simp only [wideAdd, BitVec.toNat_add, BitVec.toNat_setWidth, carryBit_toNat]
  omega

/-- The widened difference wraps modulo 65536 (R117). -/
theorem wideSub_toNat (a v : Byte) (bin : Bool) :
    (wideSub a v bin).toNat = (a.toNat + 65536 - v.toNat - bin.toNat) % 65536 := by
  have ha := a.isLt
  have hv := v.isLt
  have hb := bin.toNat_le
  simp only [wideSub, BitVec.toNat_sub, BitVec.toNat_setWidth, carryBit_toNat]
  omega

/-- fC of an addition is the carry out of bit 7 (R126). -/
theorem wideAdd_carry (a v : Byte) (cin : Bool) :
    (wideAdd a v cin).getLsbD 8 = decide (255 < a.toNat + v.toNat + cin.toNat) := by
  have ha := a.isLt
  have hv := v.isLt
  have hc := cin.toNat_le
  rw [getLsbD_eq_decide, wideAdd_toNat]
  congr 1
  apply propext
  omega

/-- fC of a subtraction is the borrow (R126). -/
theorem wideSub_borrow (a v : Byte) (bin : Bool) :
    (wideSub a v bin).getLsbD 8 = decide (a.toNat < v.toNat + bin.toNat) := by
  have ha := a.isLt
  have hv := v.isLt
  have hb := bin.toNat_le
  rw [getLsbD_eq_decide, wideSub_toNat]
  congr 1
  apply propext
  omega

/-- Popping what was pushed: unpacking the packed flags gives them back (R27, R28). -/
theorem packFlags_bits (f : Flags) :
    (packFlags f).getLsbD 7 = f.fS ∧ (packFlags f).getLsbD 6 = f.fZ ∧ (packFlags f).getLsbD 4 = f.fH ∧
      (packFlags f).getLsbD 2 = f.fP ∧ (packFlags f).getLsbD 0 = f.fC := by
  obtain ⟨s, z, h, p, c⟩ := f
  cases s <;> cases z <;> cases h <;> cases p <;> cases c <;> exact ⟨rfl, rfl, rfl, rfl, rfl⟩

/-- SZP writes fS, fZ and fP alone (R111). -/
theorem Flags.szp_spec (f : Flags) (r : Byte) :
    f.szp r = { fS := r.getLsbD 7, fZ := r == 0, fH := f.fH, fP := parity8 r, fC := f.fC } := rfl

end Sys2Proof.Machine
end

