-- ==== Sys2Proof/Laws/Ops.lean ====
section
/-! SUPPORT. What each shared operation can do, said once: what it reads back, that it keeps memory's canonical form, that the
record of transactions goes on accounting for memory, and that the notified IFF stays the notified one. -/

namespace Sys2Proof.Machine

/-! ## Words in memory -/

/-- The word read back is the word written (R54, R55). -/
theorem Memory.readWord_writeWord {m : Memory} (hm : Memory.wf m = true) (a v : Word) :
    Memory.readWord (Memory.writeWord m a v) a = v := by
  have h1 := Memory.wf_writeByte hm a (Word.lo v)
  unfold Memory.readWord Memory.writeWord
  rw [Memory.readByte_writeByte h1, Memory.readByte_writeByte_ne _ _ (Word.ne_succ a), Memory.readByte_writeByte hm a a]
  simp only [if_true, Word.ofBytes_hi_lo]

theorem State.byteAt_memWriteByte {s : State} (hs : MemoryCanonical s) (a x : Word) (v : Byte) :
    (s.memWriteByte a v).byteAt x = if x = a then v else s.byteAt x :=
  Memory.readByte_writeByte hs a x v

/-- PUSH then POP: the word at the new SP is the word pushed (R219). -/
theorem State.wordAt_push {s : State} (hs : MemoryCanonical s) (v : Word) : (s.push v).wordAt (s.sp - 2) = v :=
  Memory.readWord_writeWord hs _ v

/-! ## The canonical form is kept -/

theorem MemoryCanonical.of_mem {s t : State} (hs : MemoryCanonical s) (h : t.mem = s.mem) : MemoryCanonical t := by
  simpa [MemoryCanonical, h] using hs

theorem MemoryCanonical.memWriteByte {s : State} (hs : MemoryCanonical s) (a : Word) (v : Byte) :
    MemoryCanonical (s.memWriteByte a v) :=
  Memory.wf_writeByte hs a v

theorem MemoryCanonical.memWriteWord {s : State} (hs : MemoryCanonical s) (a v : Word) :
    MemoryCanonical (s.memWriteWord a v) :=
  Memory.wf_writeWord hs a v

theorem MemoryCanonical.push {s : State} (hs : MemoryCanonical s) (v : Word) : MemoryCanonical (s.push v) :=
  Memory.wf_writeWord hs _ v

theorem MemoryCanonical.setReg8 {s : State} (hs : MemoryCanonical s) (r : Reg8) (v : Byte) :
    MemoryCanonical (s.setReg8 r v) := by
  cases r <;> first | exact hs | exact hs.memWriteByte _ v

theorem MemoryCanonical.hostStore {s : State} (hs : MemoryCanonical s) (a : Word) (vs : List Byte) :
    MemoryCanonical (s.hostStore a vs) := by
  induction vs generalizing s a with
  | nil => exact hs
  | cons v vs ih => exact ih (s := { s with mem := Memory.writeByte s.mem a v }) (Memory.wf_writeByte hs a v) (a + 1)

theorem MemoryCanonical.reset : MemoryCanonical State.reset := rfl

/-! ## The record accounts for memory -/

theorem Coherent.of_same {m0 : Memory} {s t : State} (hs : Coherent m0 s) (hm : t.mem = s.mem) (ht : t.trace = s.trace) :
    Coherent m0 t := by
  simpa [Coherent, hm, ht] using hs

theorem Coherent.memReadByte {m0 : Memory} {s : State} (hs : Coherent m0 s) (a : Word) : Coherent m0 (s.memReadByte a).2 := by
  refine ⟨hs.1, ?_, hs.2⟩
  rw [← hs.1]
  rfl

theorem Coherent.memReadWord {m0 : Memory} {s : State} (hs : Coherent m0 s) (a : Word) : Coherent m0 (s.memReadWord a).2 := by
  refine ⟨hs.1, ?_, hs.2⟩
  rw [← hs.1]
  rfl

theorem Coherent.memWriteByte {m0 : Memory} {s : State} (hs : Coherent m0 s) (a : Word) (v : Byte) :
    Coherent m0 (s.memWriteByte a v) := by
  refine ⟨?_, hs.2⟩
  simp [State.memWriteByte, replay, ← hs.1]

theorem Coherent.memWriteWord {m0 : Memory} {s : State} (hs : Coherent m0 s) (a v : Word) :
    Coherent m0 (s.memWriteWord a v) := by
  refine ⟨?_, hs.2⟩
  simp [State.memWriteWord, replay, ← hs.1]

theorem Coherent.push {m0 : Memory} {s : State} (hs : Coherent m0 s) (v : Word) : Coherent m0 (s.push v) :=
  Coherent.memWriteWord (s := { s with sp := s.sp - 2 }) (hs.of_same rfl rfl) _ v

theorem Coherent.pop {m0 : Memory} {s : State} (hs : Coherent m0 s) : Coherent m0 s.pop.2 :=
  (hs.memReadWord s.sp).of_same rfl rfl

theorem Coherent.afterReg8 {m0 : Memory} {s : State} (hs : Coherent m0 s) (r : Reg8) : Coherent m0 (s.afterReg8 r) := by
  cases r <;> first | exact hs | exact hs.memReadByte _

theorem Coherent.setReg8 {m0 : Memory} {s : State} (hs : Coherent m0 s) (r : Reg8) (v : Byte) :
    Coherent m0 (s.setReg8 r v) := by
  cases r <;> first | exact hs.of_same rfl rfl | exact hs.memWriteByte _ v

theorem Coherent.setPair {m0 : Memory} {s : State} (hs : Coherent m0 s) (p : Pair) (v : Word) : Coherent m0 (s.setPair p v) :=
  hs.of_same (State.setPair_mem s v p) (State.setPair_trace s v p)

theorem Coherent.portInput {m0 : Memory} {s : State} (hs : Coherent m0 s) (p : Byte) : Coherent m0 (s.portInput p).2 := hs

theorem Coherent.portOutput {m0 : Memory} {s : State} (hs : Coherent m0 s) (p v : Byte) : Coherent m0 (s.portOutput p v) := hs

theorem Coherent.notifyIff {m0 : Memory} {s : State} (hs : Coherent m0 s) (b : Bool) : Coherent m0 (s.notifyIff b) := hs

theorem Coherent.fetched {m0 : Memory} {s : State} (hs : Coherent m0 s) (n : Nat) : Coherent m0 (s.fetched n) := by
  have h1 := hs.memReadByte s.pc
  unfold State.fetched State.fetchReads
  split
  · exact hs
  · exact h1.of_same rfl rfl
  · exact (h1.memReadByte (s.pc + 1)).of_same rfl rfl
  · exact (h1.memReadWord (s.pc + 1)).of_same rfl rfl

/-! ## IFF is the notified one -/

theorem IffReported.of_same {s t : State} (hs : IffReported s) (hi : t.iff = s.iff)
    (ht : notifiedIff t.trace = notifiedIff s.trace) : IffReported t := by
  simpa [IffReported, hi, ht] using hs

theorem IffReported.notified (s : State) (b : Bool) : IffReported (State.notifyIff { s with iff := b } b) := rfl

theorem IffReported.setReg8 {s : State} (hs : IffReported s) (r : Reg8) (v : Byte) : IffReported (s.setReg8 r v) := by
  cases r <;> exact hs

theorem IffReported.afterReg8 {s : State} (hs : IffReported s) (r : Reg8) : IffReported (s.afterReg8 r) := by
  cases r <;> exact hs

theorem IffReported.setPair {s : State} (hs : IffReported s) (p : Pair) (v : Word) : IffReported (s.setPair p v) := by
  cases p <;> exact hs

theorem IffReported.fetched {s : State} (hs : IffReported s) (n : Nat) : IffReported (s.fetched n) := by
  unfold State.fetched State.fetchReads
  split <;> exact hs

/-! ## The operand selectors -/

/-- A pair reads back as written (R23). -/
@[simp] theorem State.pair_setPair (s : State) (p : Pair) (v : Word) : (s.setPair p v).pair p = v := by
  cases p <;> simp [State.setPair, State.pair, State.bc, State.de, State.hl]

/-- Reading an operand leaves every operand's value. -/
@[simp] theorem State.reg8_afterReg8 (s : State) (r q : Reg8) : (s.afterReg8 r).reg8 q = s.reg8 q := by
  cases r <;> rfl

@[simp] theorem State.hl_afterReg8 (s : State) (r : Reg8) : (s.afterReg8 r).hl = s.hl := by
  cases r <;> rfl

/-- Another register reads as before. -/
theorem State.reg8_setReg8_ne (s : State) {r q : Reg8} (v : Byte) (hq : q ≠ .m) (h : q ≠ r) :
    (s.setReg8 r v).reg8 q = s.reg8 q := by
  cases r <;> cases q <;> first | rfl | exact absurd rfl hq | exact absurd rfl h

/-- The byte at an address other than HL reads as before. -/
theorem State.byteAt_setReg8 (s : State) (r : Reg8) (v : Byte) {x : Word} (h : r = .m → x ≠ s.hl) :
    (s.setReg8 r v).byteAt x = s.byteAt x := by
  cases r <;> first | rfl | exact Memory.readByte_writeByte_ne _ _ (h rfl)

/-- An ALU operation reads and writes A and the flags alone. -/
theorem State.aluOp_spec (s : State) (o : AluOp) (v : Byte) :
    s.aluOp o v = { s with a := (s.aluOp o v).a, flags := (s.aluOp o v).flags } := by
  cases o <;> rfl

/-! ## The next state of a shared operation, written out -/

theorem State.push_spec (s : State) (v : Word) :
    s.push v =
      { s with
        sp := s.sp - 2
        mem := Memory.writeWord s.mem (s.sp - 2) v
        trace := .memWriteWord (s.sp - 2) v :: s.trace } := rfl

theorem State.pop_spec (s : State) :
    s.pop = (s.wordAt s.sp, { s with sp := s.sp + 2, trace := .memReadWord s.sp (s.wordAt s.sp) :: s.trace }) := rfl

theorem State.callTo_spec (s : State) (a : Word) : s.callTo a = { s.push s.pc with pc := a } := rfl

theorem State.returnFrom_spec (s : State) : s.returnFrom = { s.pop.2 with pc := s.wordAt s.sp } := rfl

/-- A port input: an answer is used up, or a free value is drawn, and the byte is on record. -/
theorem State.portInput_spec (s : State) (p : Byte) :
    s.portInput p =
      (s.portValue p,
        { s with
          portAnswers := s.portAnswers.tail
          portDraws := if s.portAnswers.isEmpty then s.portDraws + 1 else s.portDraws
          trace := .portIn p (s.portValue p) :: s.trace }) := rfl

/-- DAD writes HL and fC alone. -/
theorem State.dadOp_spec (s : State) (v : Word) :
    s.dadOp v =
      { s with h := (s.dadOp v).h, l := (s.dadOp v).l, flags := { s.flags with fC := (s.dadOp v).flags.fC } } := rfl

/-- DAA writes A and the flags alone. -/
theorem State.daaOp_spec (s : State) : s.daaOp = { s with a := s.daaOp.a, flags := s.daaOp.flags } := rfl

/-- What INR and DCR answer: the operand read, the flags set, the result written back. -/
theorem increment_spec (r : Reg8) (s : State) :
    increment r s = .next (State.setReg8 { s.afterReg8 r with flags := incFlags s.flags (s.reg8 r) } r
      (Word.lo (wideAdd (s.reg8 r) 1 false))) := by
  cases r <;> rfl

theorem decrement_spec (r : Reg8) (s : State) :
    decrement r s = .next (State.setReg8 { s.afterReg8 r with flags := decFlags s.flags (s.reg8 r) } r
      (Word.lo (wideSub (s.reg8 r) 1 false))) := by
  cases r <;> rfl

/-- A conditional transfer is the transfer or nothing. -/
theorem jumpIf_cases {cond : Cond} {a : Word} {s t : State} (h : jumpIf cond a s = .next t) :
    (condHolds cond s.flags = true ∧ t = { s with pc := a }) ∨ (condHolds cond s.flags = false ∧ t = s) := by
  cases hc : condHolds cond s.flags <;> simp [jumpIf, hc] at h <;> simp [h]

theorem callIf_cases {cond : Cond} {a : Word} {s t : State} (h : callIf cond a s = .next t) :
    (condHolds cond s.flags = true ∧ t = s.callTo a) ∨ (condHolds cond s.flags = false ∧ t = s) := by
  cases hc : condHolds cond s.flags <;> simp [callIf, hc] at h <;> simp [h]

theorem returnIf_cases {cond : Cond} {s t : State} (h : returnIf cond s = .next t) :
    (condHolds cond s.flags = true ∧ t = s.returnFrom) ∨ (condHolds cond s.flags = false ∧ t = s) := by
  cases hc : condHolds cond s.flags <;> simp [returnIf, hc] at h <;> simp [h]

end Sys2Proof.Machine
end

