-- ==== Sys2Proof/Tests/Slice0.lean ====
section
/-! SUPPORT. The model's own tests: what the well-formedness checks refuse, the decoding of every opcode by words written out from
spec/30_encoding.md, one step for each family with the results of spec/95_test_vectors.md (named V-… or S…), the host's
interface, and a witness for the hypotheses of each statement. -/

namespace Sys2Proof.Tests

open Sys2Proof.Machine

/-! ## Well-formedness: ill-formed byte strings and memories are refused -/

theorem test_empty_is_no_instruction : wellFormedBytes [] = false := by decide

theorem test_missing_operand_byte : wellFormedBytes [0x3E] = false := by decide

theorem test_missing_high_operand_byte : wellFormedBytes [0xC3, 0x00] = false := by decide

theorem test_byte_left_over_after_an_f1_opcode : wellFormedBytes [0x76, 0x00] = false := by decide

theorem test_byte_left_over_after_an_f2_opcode : wellFormedBytes [0xD3, 0x01, 0x00] = false := by decide

theorem test_whole_instructions : wellFormedBytes [0x76] = true ∧ wellFormedBytes [0x3E, 0x42] = true ∧
    wellFormedBytes [0xFD, 0x00, 0x20] = true := by decide

theorem test_decode_refuses_no_bytes : decode [] = .error .noBytes := rfl

theorem test_decode_refuses_a_cut_operand : decode [0x21, 0x34] = .error (.missingOperand 0x21) := rfl

theorem test_memory_out_of_order : Memory.wf [(2, 1), (1, 1)] = false := by decide

theorem test_memory_listed_twice : Memory.wf [(1, 1), (1, 2)] = false := by decide

theorem test_memory_past_the_address_space : Memory.wf [(65536, 1)] = false := by decide

theorem test_memory_lists_an_unwritten_value : Memory.wf [(1, Config.unwritten)] = false := by decide

theorem test_memory_forgets_a_byte_written_back :
    Memory.writeByte (Memory.writeByte [] 0x1234 0x56) 0x1234 Config.unwritten = [] := by decide

/-! ## Decoding: every opcode byte of the map (R97), one row at a time, with the operand bytes 34 12 -/

/-- The instructions that a row's sixteen opcode bytes decode to, each in its table word with the operand bytes 34 12. -/
def row (hi : Nat) : List (Option Instr) :=
  (List.range 16).map fun lo => decodeTableWord 24 (0x123400 + 16 * hi + lo)

theorem test_decode_row_0 : row 0x0 = [
    .nop, .lxiB 0x1234, .staxB, .inxB, .inrB, .dcrB, .mviB 0x34, .rlc, .nop08, .dadB, .ldaxB, .dcxB, .inrC, .dcrC, .mviC
    0x34, .rrc].map some := by decide

theorem test_decode_row_1 : row 0x1 = [
    .nop10, .lxiD 0x1234, .staxD, .inxD, .inrD, .dcrD, .mviD 0x34, .ral, .nop18, .dadD, .ldaxD, .dcxD, .inrE, .dcrE,
    .mviE 0x34, .rar].map some := by decide

theorem test_decode_row_2 : row 0x2 = [
    .nop20, .lxiH 0x1234, .shld 0x1234, .inxH, .inrH, .dcrH, .mviH 0x34, .daa, .nop28, .dadH, .lhld 0x1234, .dcxH,
    .inrL, .dcrL, .mviL 0x34, .cma].map some := by decide

theorem test_decode_row_3 : row 0x3 = [
    .nop30, .lxiSP 0x1234, .sta 0x1234, .inxSP, .inrM, .dcrM, .mviM 0x34, .stc, .nop38, .dadSP, .lda 0x1234, .dcxSP,
    .inrA, .dcrA, .mviA 0x34, .cmc].map some := by decide

theorem test_decode_row_4 : row 0x4 = [
    .movBB, .movBC, .movBD, .movBE, .movBH, .movBL, .movBM, .movBA, .movCB, .movCC, .movCD, .movCE, .movCH, .movCL,
    .movCM, .movCA].map some := by decide

theorem test_decode_row_5 : row 0x5 = [
    .movDB, .movDC, .movDD, .movDE, .movDH, .movDL, .movDM, .movDA, .movEB, .movEC, .movED, .movEE, .movEH, .movEL,
    .movEM, .movEA].map some := by decide

theorem test_decode_row_6 : row 0x6 = [
    .movHB, .movHC, .movHD, .movHE, .movHH, .movHL, .movHM, .movHA, .movLB, .movLC, .movLD, .movLE, .movLH, .movLL,
    .movLM, .movLA].map some := by decide

theorem test_decode_row_7 : row 0x7 = [
    .movMB, .movMC, .movMD, .movME, .movMH, .movML, .hlt, .movMA, .movAB, .movAC, .movAD, .movAE, .movAH, .movAL,
    .movAM, .movAA].map some := by decide

theorem test_decode_row_8 : row 0x8 = [
    .addB, .addC, .addD, .addE, .addH, .addL, .addM, .addA, .adcB, .adcC, .adcD, .adcE, .adcH, .adcL, .adcM, .adcA].map some := by decide

theorem test_decode_row_9 : row 0x9 = [
    .subB, .subC, .subD, .subE, .subH, .subL, .subM, .subA, .sbbB, .sbbC, .sbbD, .sbbE, .sbbH, .sbbL, .sbbM, .sbbA].map some := by decide

theorem test_decode_row_A : row 0xA = [
    .anaB, .anaC, .anaD, .anaE, .anaH, .anaL, .anaM, .anaA, .xraB, .xraC, .xraD, .xraE, .xraH, .xraL, .xraM, .xraA].map some := by decide

theorem test_decode_row_B : row 0xB = [
    .oraB, .oraC, .oraD, .oraE, .oraH, .oraL, .oraM, .oraA, .cmpB, .cmpC, .cmpD, .cmpE, .cmpH, .cmpL, .cmpM, .cmpA].map some := by decide

theorem test_decode_row_C : row 0xC = [
    .rnz, .popB, .jnz 0x1234, .jmp 0x1234, .cnz 0x1234, .pushB, .adi 0x34, .rst0, .rz, .ret, .jz 0x1234, .jmpCB 0x1234,
    .cz 0x1234, .call 0x1234, .aci 0x34, .rst1].map some := by decide

theorem test_decode_row_D : row 0xD = [
    .rnc, .popD, .jnc 0x1234, .outPort 0x34, .cnc 0x1234, .pushD, .sui 0x34, .rst2, .rc, .retD9, .jc 0x1234, .inPort
    0x34, .cc 0x1234, .callDD 0x1234, .sbi 0x34, .rst3].map some := by decide

theorem test_decode_row_E : row 0xE = [
    .rpo, .popH, .jpo 0x1234, .xthl, .cpo 0x1234, .pushH, .ani 0x34, .rst4, .rpe, .pchl, .jpe 0x1234, .xchg, .cpe
    0x1234, .callED 0x1234, .xri 0x34, .rst5].map some := by decide

theorem test_decode_row_F : row 0xF = [
    .rp, .popPSW, .jp 0x1234, .di, .cp 0x1234, .pushPSW, .ori 0x34, .rst6, .rm, .sphl, .jm 0x1234, .ei, .cm 0x1234,
    .callFD 0x1234, .cpi 0x34, .rst7].map some := by decide

/-- The table gives one-byte rows 8 bits: the bits above are zero. -/
theorem test_decode_table_word_of_8_bits : decodeTableWord 8 0x76 = some .hlt ∧ decodeTableWord 8 0xC3 = some (.jmp 0) := by
  decide

theorem test_dispatch_order : (stage1 0xCB).isSome ∧ (stage1 0x76).isSome ∧ (stage2 0x36).isSome = true := by decide

/-! ## Steps with the results of spec/95_test_vectors.md -/

/-- The vectors' common start: PC = 0100, every register and flag zero, the instruction at PC. -/
def base : State :=
  { a := 0, b := 0, c := 0, d := 0, e := 0, h := 0, l := 0, sp := 0, pc := 0x0100, flags := ⟨false, false, false, false, false⟩,
    iff := false, lastPC := 0, mem := [], trace := [], cycles := 0, portAnswers := [], portDraws := 0 }

/-- What `look` sees after one step of the code placed at PC. -/
def after {α : Type} (code : List Byte) (s : State) (look : State → α) : Option α :=
  match step (s.hostStore s.pc code) with
  | .next t => some (look t)
  | .fault _ => none
  | .refused _ => none

/-- V-INR-1 -/
theorem test_inr_a_wraps_and_keeps_carry :
    after [0x3C] { base with a := 0xFF, flags := ⟨false, false, false, false, true⟩ }
      (fun t => (t.a, t.flags, t.pc, t.cycles))
    = some (0x00, ⟨false, true, true, true, true⟩, 0x0101, 5) := by decide

/-- V-INR-2 -/
theorem test_inr_b_reaches_the_sign :
    after [0x04] { base with b := 0x7F }
      (fun t => (t.b, t.flags, t.pc, t.cycles))
    = some (0x80, ⟨true, false, true, false, false⟩, 0x0101, 5) := by decide

/-- V-INR-3 -/
theorem test_inr_l_without_half_carry :
    after [0x2C] { base with l := 0x0E }
      (fun t => (t.l, t.flags, t.pc, t.cycles))
    = some (0x0F, ⟨false, false, false, true, false⟩, 0x0101, 5) := by decide

/-- V-DCR-1 -/
theorem test_dcr_a_borrows_from_bit_4 :
    after [0x3D] { base with a := 0x10 }
      (fun t => (t.a, t.flags, t.pc, t.cycles))
    = some (0x0F, ⟨false, false, false, true, false⟩, 0x0101, 5) := by decide

/-- V-DCR-2 -/
theorem test_dcr_b_wraps_and_keeps_carry :
    after [0x05] { base with b := 0x00, flags := ⟨false, false, false, false, true⟩ }
      (fun t => (t.b, t.flags, t.pc, t.cycles))
    = some (0xFF, ⟨true, false, false, true, true⟩, 0x0101, 5) := by decide

/-- V-DCR-4 -/
theorem test_dcr_m_at_the_top_of_memory :
    after [0x35] (({ base with h := 0xFF, l := 0xFF } : State).hostStore 0xFFFF [0x01])
      (fun t => (t.byteAt 0xFFFF, t.flags, t.pc, t.cycles))
    = some (0x00, ⟨false, true, true, true, false⟩, 0x0101, 10) := by decide

/-- V-ADD-1 -/
theorem test_add_a :
    after [0x87] { base with a := 0x80 }
      (fun t => (t.a, t.flags, t.pc, t.cycles))
    = some (0x00, ⟨false, true, false, true, true⟩, 0x0101, 4) := by decide

/-- V-ADD-2 -/
theorem test_add_b_half_carry :
    after [0x80] { base with a := 0x08, b := 0x08 }
      (fun t => (t.a, t.flags, t.pc, t.cycles))
    = some (0x10, ⟨false, false, true, false, false⟩, 0x0101, 4) := by decide

/-- V-ADD-3 -/
theorem test_adi :
    after [0xC6, 0x7F] { base with a := 0x01 }
      (fun t => (t.a, t.flags, t.pc, t.cycles))
    = some (0x80, ⟨true, false, true, false, false⟩, 0x0102, 7) := by decide

/-- V-ADC-1 -/
theorem test_adc_b_counts_the_carry_in :
    after [0x88] { base with a := 0xFF, b := 0x00, flags := ⟨false, false, false, false, true⟩ }
      (fun t => (t.a, t.flags, t.pc, t.cycles))
    = some (0x00, ⟨false, true, true, true, true⟩, 0x0101, 4) := by decide

/-- V-ADC-2 -/
theorem test_adc_a :
    after [0x8F] { base with a := 0x88, flags := ⟨false, false, false, false, true⟩ }
      (fun t => (t.a, t.flags, t.pc, t.cycles))
    = some (0x11, ⟨false, false, true, true, true⟩, 0x0101, 4) := by decide

/-- V-SUB-1 -/
theorem test_sub_b_borrows :
    after [0x90] { base with a := 0x05, b := 0x06 }
      (fun t => (t.a, t.flags, t.pc, t.cycles))
    = some (0xFF, ⟨true, false, false, true, true⟩, 0x0101, 4) := by decide

/-- V-SUB-2 -/
theorem test_sui :
    after [0xD6, 0x80] { base with a := 0x00 }
      (fun t => (t.a, t.flags, t.pc, t.cycles))
    = some (0x80, ⟨true, false, true, false, true⟩, 0x0102, 7) := by decide

/-- V-SUB-3 -/
theorem test_sub_c_half_borrow_alone :
    after [0x91] { base with a := 0x80, c := 0x01 }
      (fun t => (t.a, t.pc, t.cycles))
    = some (0x7F, 0x0101, 4) := by decide

/-- V-SBB-1 -/
theorem test_sbb_b :
    after [0x98] { base with a := 0x10, b := 0x0F, flags := ⟨false, false, false, false, true⟩ }
      (fun t => (t.a, t.flags, t.pc, t.cycles))
    = some (0x00, ⟨false, true, false, true, false⟩, 0x0101, 4) := by decide

/-- V-SBB-3 -/
theorem test_sbi_of_ff :
    after [0xDE, 0xFF] { base with a := 0xFF, flags := ⟨false, false, false, false, true⟩ }
      (fun t => (t.a, t.flags, t.pc, t.cycles))
    = some (0xFF, ⟨true, false, false, true, true⟩, 0x0102, 7) := by decide

/-- V-CMP-1 -/
theorem test_cmp_b_equal :
    after [0xB8] { base with a := 0x05, b := 0x05 }
      (fun t => (t.a, t.flags, t.pc, t.cycles))
    = some (0x05, ⟨false, true, true, true, false⟩, 0x0101, 4) := by decide

/-- V-CMP-2 -/
theorem test_cpi_below :
    after [0xFE, 0x06] { base with a := 0x05 }
      (fun t => (t.a, t.flags, t.pc, t.cycles))
    = some (0x05, ⟨true, false, false, true, true⟩, 0x0102, 7) := by decide

/-- V-CMP-3 -/
theorem test_cmp_a_ignores_the_old_carry :
    after [0xBF] { base with a := 0x9C, flags := ⟨false, false, false, false, true⟩ }
      (fun t => (t.a, t.flags, t.pc, t.cycles))
    = some (0x9C, ⟨false, true, true, true, false⟩, 0x0101, 4) := by decide

/-- V-ANA-1 -/
theorem test_ana_b_half_carry_is_the_or :
    after [0xA0] { base with a := 0x08 }
      (fun t => (t.a, t.flags, t.pc, t.cycles))
    = some (0x00, ⟨false, true, true, true, false⟩, 0x0101, 4) := by decide

/-- V-ANA-2 -/
theorem test_ani_clears_the_carry :
    after [0xE6, 0xF0] { base with a := 0xF0, flags := ⟨false, false, false, false, true⟩ }
      (fun t => (t.a, t.flags, t.pc, t.cycles))
    = some (0xF0, ⟨true, false, false, true, false⟩, 0x0102, 7) := by decide

/-- V-XRA-1 -/
theorem test_xra_b_clears_the_carries :
    after [0xA8] { base with a := 0xFF, b := 0xFF, flags := ⟨false, false, true, false, true⟩ }
      (fun t => (t.a, t.flags, t.pc, t.cycles))
    = some (0x00, ⟨false, true, false, true, false⟩, 0x0101, 4) := by decide

/-- V-ORA-1 -/
theorem test_ora_a :
    after [0xB7] { base with a := 0x00, flags := ⟨false, false, false, false, true⟩ }
      (fun t => (t.a, t.flags, t.pc, t.cycles))
    = some (0x00, ⟨false, true, false, true, false⟩, 0x0101, 4) := by decide

/-- V-ORI-1 -/
theorem test_ori :
    after [0xF6, 0x08] { base with a := 0x80, flags := ⟨false, false, true, false, false⟩ }
      (fun t => (t.a, t.flags, t.pc, t.cycles))
    = some (0x88, ⟨true, false, false, true, false⟩, 0x0102, 7) := by decide

/-- V-DAD-1 -/
theorem test_dad_d_sets_carry_alone :
    after [0x19] { base with h := 0xFF, l := 0xFF, d := 0x00, e := 0x01, flags := ⟨true, true, false, false, false⟩ }
      (fun t => (t.h, t.l, t.flags, t.pc, t.cycles))
    = some (0x00, 0x00, ⟨true, true, false, false, true⟩, 0x0101, 10) := by decide

/-- V-DAD-3 -/
theorem test_dad_sp :
    after [0x39] { base with h := 0x10, sp := 0xF000, flags := ⟨false, false, false, false, true⟩ }
      (fun t => (t.h, t.l, t.flags, t.pc, t.cycles))
    = some (0x00, 0x00, ⟨false, false, false, false, true⟩, 0x0101, 10) := by decide

/-- V-INX-1 -/
theorem test_inx_sp_wraps_without_flags :
    after [0x33] { base with sp := 0xFFFF }
      (fun t => (t.sp, t.pc, t.cycles))
    = some (0x0000, 0x0101, 5) := by decide

/-- V-INX-2 -/
theorem test_inx_h_carries_into_h :
    after [0x23] { base with l := 0xFF, flags := ⟨false, true, false, false, false⟩ }
      (fun t => (t.h, t.l, t.flags, t.pc, t.cycles))
    = some (0x01, 0x00, ⟨false, true, false, false, false⟩, 0x0101, 5) := by decide

/-- V-DCX-1 -/
theorem test_dcx_h_borrows_from_h :
    after [0x2B] { base with h := 0x01 }
      (fun t => (t.h, t.l, t.pc, t.cycles))
    = some (0x00, 0xFF, 0x0101, 5) := by decide

/-- S7 -/
theorem test_daa_of_9a :
    after [0x27] { base with a := 0x9A }
      (fun t => (t.a, t.flags, t.pc, t.cycles))
    = some (0x00, ⟨false, true, true, true, true⟩, 0x0101, 4) := by decide

/-- V-DAA-2 -/
theorem test_daa_carry_comes_from_the_decision :
    after [0x27] { base with a := 0x00, flags := ⟨false, false, false, false, true⟩ }
      (fun t => (t.a, t.flags, t.pc, t.cycles))
    = some (0x60, ⟨false, false, false, true, true⟩, 0x0101, 4) := by decide

/-- V-RLC-1 -/
theorem test_rlc :
    after [0x07] { base with a := 0x80 }
      (fun t => (t.a, t.flags, t.pc, t.cycles))
    = some (0x01, ⟨false, false, false, false, true⟩, 0x0101, 4) := by decide

/-- V-RRC-1 -/
theorem test_rrc_keeps_zero :
    after [0x0F] { base with a := 0x01, flags := ⟨false, true, false, false, false⟩ }
      (fun t => (t.a, t.flags, t.pc, t.cycles))
    = some (0x80, ⟨false, true, false, false, true⟩, 0x0101, 4) := by decide

/-- V-RAL-1 -/
theorem test_ral_shifts_out :
    after [0x17] { base with a := 0x80 }
      (fun t => (t.a, t.flags, t.pc, t.cycles))
    = some (0x00, ⟨false, false, false, false, true⟩, 0x0101, 4) := by decide

/-- V-RAL-2 -/
theorem test_ral_shifts_the_carry_in :
    after [0x17] { base with a := 0x00, flags := ⟨false, false, false, false, true⟩ }
      (fun t => (t.a, t.flags, t.pc, t.cycles))
    = some (0x01, ⟨false, false, false, false, false⟩, 0x0101, 4) := by decide

/-- V-RAR-1 -/
theorem test_rar_shifts_out :
    after [0x1F] { base with a := 0x01 }
      (fun t => (t.a, t.flags, t.pc, t.cycles))
    = some (0x00, ⟨false, false, false, false, true⟩, 0x0101, 4) := by decide

/-- V-RAR-2 -/
theorem test_rar_shifts_the_carry_in :
    after [0x1F] { base with a := 0x00, flags := ⟨false, false, false, false, true⟩ }
      (fun t => (t.a, t.flags, t.pc, t.cycles))
    = some (0x80, ⟨false, false, false, false, false⟩, 0x0101, 4) := by decide

/-- V-CMA-1 -/
theorem test_cma_keeps_zero :
    after [0x2F] { base with a := 0x00, flags := ⟨false, true, false, false, false⟩ }
      (fun t => (t.a, t.flags, t.pc, t.cycles))
    = some (0xFF, ⟨false, true, false, false, false⟩, 0x0101, 4) := by decide

/-- V-STC-1 -/
theorem test_stc :
    after [0x37] { base with flags := ⟨false, false, false, false, true⟩ }
      (fun t => (t.flags, t.pc, t.cycles))
    = some (⟨false, false, false, false, true⟩, 0x0101, 4) := by decide

/-- V-CMC-1 -/
theorem test_cmc :
    after [0x3F] { base with flags := ⟨false, true, false, false, false⟩ }
      (fun t => (t.flags, t.pc, t.cycles))
    = some (⟨false, true, false, false, true⟩, 0x0101, 4) := by decide

/-- V-MOV-2 -/
theorem test_mov_h_m_reads_before_it_writes :
    after [0x66] (({ base with h := 0x20 } : State).hostStore 0x2000 [0xAB])
      (fun t => (t.h, t.pc, t.cycles))
    = some (0xAB, 0x0101, 7) := by decide

/-- V-MOV-4 -/
theorem test_mov_m_h :
    after [0x74] { base with h := 0x20, l := 0x10 }
      (fun t => (t.byteAt 0x2010, t.pc, t.cycles))
    = some (0x20, 0x0101, 7) := by decide

/-- V-MVI-1 -/
theorem test_mvi_c :
    after [0x0E, 0xFF] { base with flags := ⟨false, true, false, false, false⟩ }
      (fun t => (t.c, t.flags, t.pc, t.cycles))
    = some (0xFF, ⟨false, true, false, false, false⟩, 0x0102, 7) := by decide

/-- S9 -/
theorem test_mvi_a :
    after [0x3E, 0x42] base
      (fun t => (t.a, t.pc, t.cycles))
    = some (0x42, 0x0102, 7) := by decide

/-- V-LXI-1 -/
theorem test_lxi_sp :
    after [0x31, 0xFF, 0xFF] base
      (fun t => (t.sp, t.pc, t.cycles))
    = some (0xFFFF, 0x0103, 10) := by decide

/-- V-LDA-1 -/
theorem test_lda_at_the_top_of_memory :
    after [0x3A, 0xFF, 0xFF] (base.hostStore 0xFFFF [0x12])
      (fun t => (t.a, t.pc, t.cycles))
    = some (0x12, 0x0103, 13) := by decide

/-- V-STA-1 -/
theorem test_sta :
    after [0x32, 0x00, 0x00] { base with a := 0x77 }
      (fun t => (t.byteAt 0x0000, t.pc, t.cycles))
    = some (0x77, 0x0103, 13) := by decide

/-- V-LHLD-1 -/
theorem test_lhld_wraps :
    after [0x2A, 0xFF, 0xFF] ((base.hostStore 0xFFFF [0x34]).hostStore 0x0000 [0x12])
      (fun t => (t.h, t.l, t.pc, t.cycles))
    = some (0x12, 0x34, 0x0103, 16) := by decide

/-- V-SHLD-1 -/
theorem test_shld_wraps :
    after [0x22, 0xFF, 0xFF] { base with h := 0xBE, l := 0xEF }
      (fun t => (t.byteAt 0xFFFF, t.byteAt 0x0000, t.pc, t.cycles))
    = some (0xEF, 0xBE, 0x0103, 16) := by decide

/-- V-LDAX-1 -/
theorem test_ldax_d_reads_its_own_opcode :
    after [0x1A] { base with d := 0x01 }
      (fun t => (t.a, t.pc, t.cycles))
    = some (0x1A, 0x0101, 7) := by decide

/-- V-STAX-1 -/
theorem test_stax_b_overwrites_its_own_opcode :
    after [0x02] { base with b := 0x01 }
      (fun t => (t.byteAt 0x0100, t.pc, t.cycles))
    = some (0x00, 0x0101, 7) := by decide

/-- V-XCHG-1 -/
theorem test_xchg :
    after [0xEB] { base with h := 0xFF, l := 0xFF }
      (fun t => (t.d, t.e, t.h, t.l, t.pc, t.cycles))
    = some (0xFF, 0xFF, 0x00, 0x00, 0x0101, 4) := by decide

/-- V-XTHL-1 -/
theorem test_xthl_wraps :
    after [0xE3] ((({ base with sp := 0xFFFF, h := 0x33, l := 0x44 } : State).hostStore 0xFFFF [0x11]).hostStore 0x0000 [0x22])
      (fun t => (t.h, t.l, t.byteAt 0xFFFF, t.byteAt 0x0000, t.pc, t.cycles))
    = some (0x22, 0x11, 0x44, 0x33, 0x0101, 18) := by decide

/-- V-SPHL-1 -/
theorem test_sphl :
    after [0xF9] { base with sp := 0x1234 }
      (fun t => (t.sp, t.pc, t.cycles))
    = some (0x0000, 0x0101, 5) := by decide

/-- V-PUSH-1 -/
theorem test_push_b_wraps :
    after [0xC5] { base with b := 0x12, c := 0x34, sp := 0x0001 }
      (fun t => (t.sp, t.byteAt 0xFFFF, t.byteAt 0x0000, t.pc, t.cycles))
    = some (0xFFFF, 0x34, 0x12, 0x0101, 11) := by decide

/-- V-PUSH-3 -/
theorem test_push_psw_of_zero :
    after [0xF5] { base with sp := 0x3000 }
      (fun t => (t.sp, t.byteAt 0x2FFE, t.byteAt 0x2FFF, t.pc, t.cycles))
    = some (0x2FFE, 0x02, 0x00, 0x0101, 11) := by decide

/-- V-PUSH-4 -/
theorem test_push_psw_of_ones :
    after [0xF5] { base with a := 0xFF, sp := 0x3000, flags := ⟨true, true, true, true, true⟩ }
      (fun t => (t.sp, t.byteAt 0x2FFE, t.byteAt 0x2FFF, t.flags, t.pc, t.cycles))
    = some (0x2FFE, 0xD7, 0xFF, ⟨true, true, true, true, true⟩, 0x0101, 11) := by decide

/-- V-POP-1 -/
theorem test_pop_d_wraps :
    after [0xD1] ((({ base with sp := 0xFFFF } : State).hostStore 0xFFFF [0xCD]).hostStore 0x0000 [0xAB])
      (fun t => (t.d, t.e, t.sp, t.pc, t.cycles))
    = some (0xAB, 0xCD, 0x0001, 0x0101, 10) := by decide

/-- V-POP-2 -/
theorem test_pop_psw_discards_the_reserved_bits :
    after [0xF1] ((({ base with sp := 0x3000, flags := ⟨true, true, true, true, true⟩ } : State).hostStore 0x3000 [0x28]).hostStore 0x3001 [0x99])
      (fun t => (t.a, t.sp, t.flags, t.pc, t.cycles))
    = some (0x99, 0x3002, ⟨false, false, false, false, false⟩, 0x0101, 10) := by decide

/-- V-POP-3 -/
theorem test_pop_psw_of_ones :
    after [0xF1] ((({ base with sp := 0x3000 } : State).hostStore 0x3000 [0xD5]).hostStore 0x3001 [0x00])
      (fun t => (t.a, t.sp, t.flags, t.pc, t.cycles))
    = some (0x00, 0x3002, ⟨true, true, true, true, true⟩, 0x0101, 10) := by decide

/-- V-JNZ -/
theorem test_jnz_taken :
    after [0xC2, 0x00, 0x20] { base with flags := ⟨false, false, false, false, false⟩ }
      (fun t => (t.flags, t.pc, t.cycles))
    = some (⟨false, false, false, false, false⟩, 0x2000, 10) := by decide

/-- V-JZ -/
theorem test_jz_taken :
    after [0xCA, 0x00, 0x20] { base with flags := ⟨false, true, false, false, false⟩ }
      (fun t => (t.flags, t.pc, t.cycles))
    = some (⟨false, true, false, false, false⟩, 0x2000, 10) := by decide

/-- V-JNC -/
theorem test_jnc_taken :
    after [0xD2, 0x00, 0x20] { base with flags := ⟨false, false, false, false, false⟩ }
      (fun t => (t.flags, t.pc, t.cycles))
    = some (⟨false, false, false, false, false⟩, 0x2000, 10) := by decide

/-- V-JC -/
theorem test_jc_taken :
    after [0xDA, 0x00, 0x20] { base with flags := ⟨false, false, false, false, true⟩ }
      (fun t => (t.flags, t.pc, t.cycles))
    = some (⟨false, false, false, false, true⟩, 0x2000, 10) := by decide

/-- V-JPO -/
theorem test_jpo_taken :
    after [0xE2, 0x00, 0x20] { base with flags := ⟨false, false, false, false, false⟩ }
      (fun t => (t.flags, t.pc, t.cycles))
    = some (⟨false, false, false, false, false⟩, 0x2000, 10) := by decide

/-- V-JPE -/
theorem test_jpe_taken :
    after [0xEA, 0x00, 0x20] { base with flags := ⟨false, false, false, true, false⟩ }
      (fun t => (t.flags, t.pc, t.cycles))
    = some (⟨false, false, false, true, false⟩, 0x2000, 10) := by decide

/-- V-JP -/
theorem test_jp_taken :
    after [0xF2, 0x00, 0x20] { base with flags := ⟨false, false, false, false, false⟩ }
      (fun t => (t.flags, t.pc, t.cycles))
    = some (⟨false, false, false, false, false⟩, 0x2000, 10) := by decide

/-- V-JM -/
theorem test_jm_taken :
    after [0xFA, 0x00, 0x20] { base with flags := ⟨true, false, false, false, false⟩ }
      (fun t => (t.flags, t.pc, t.cycles))
    = some (⟨true, false, false, false, false⟩, 0x2000, 10) := by decide

/-- V-JMP-1 -/
theorem test_jmp_cb :
    after [0xCB, 0xFF, 0xFF] base
      (fun t => (t.pc, t.cycles))
    = some (0xFFFF, 10) := by decide

/-- V-PCHL-1 -/
theorem test_pchl :
    after [0xE9] { base with h := 0xFF, l := 0xFF }
      (fun t => (t.pc, t.cycles))
    = some (0xFFFF, 5) := by decide

/-- V-CALL-1 -/
theorem test_call_fetches_its_operand_first :
    after [0xCD, 0x34, 0x12] { base with pc := 0xFFFD, sp := 0x0000 }
      (fun t => (t.sp, t.byteAt 0xFFFE, t.byteAt 0xFFFF, t.pc, t.cycles))
    = some (0xFFFE, 0x00, 0x00, 0x1234, 17) := by decide

/-- V-CALL-2 -/
theorem test_call_fd :
    after [0xFD, 0x00, 0x20] { base with sp := 0x3000 }
      (fun t => (t.sp, t.byteAt 0x2FFE, t.byteAt 0x2FFF, t.pc, t.cycles))
    = some (0x2FFE, 0x03, 0x01, 0x2000, 17) := by decide

/-- V-CNZ-1 -/
theorem test_cnz_not_taken :
    after [0xC4, 0x00, 0x20] { base with sp := 0x3000, flags := ⟨false, true, false, false, false⟩ }
      (fun t => (t.flags, t.pc, t.cycles))
    = some (⟨false, true, false, false, false⟩, 0x0103, 11) := by decide

/-- V-CPE-1 -/
theorem test_cpe_taken :
    after [0xEC, 0x00, 0x20] { base with sp := 0x3000, flags := ⟨false, false, false, true, false⟩ }
      (fun t => (t.sp, t.byteAt 0x2FFE, t.byteAt 0x2FFF, t.flags, t.pc, t.cycles))
    = some (0x2FFE, 0x03, 0x01, ⟨false, false, false, true, false⟩, 0x2000, 17) := by decide

/-- V-RET-1 -/
theorem test_ret_d9 :
    after [0xD9] ((({ base with sp := 0x2FFE } : State).hostStore 0x2FFE [0x03]).hostStore 0x2FFF [0x01])
      (fun t => (t.sp, t.pc, t.cycles))
    = some (0x3000, 0x0103, 10) := by decide

/-- V-RM-1 -/
theorem test_rm_taken :
    after [0xF8] ((({ base with sp := 0xFFFF, flags := ⟨true, false, false, false, false⟩ } : State).hostStore 0xFFFF [0x00]).hostStore 0x0000 [0x40])
      (fun t => (t.sp, t.flags, t.pc, t.cycles))
    = some (0x0001, ⟨true, false, false, false, false⟩, 0x4000, 11) := by decide

/-- V-RM-0 -/
theorem test_rm_not_taken :
    after [0xF8] { base with sp := 0xFFFF }
      (fun t => (t.sp, t.pc, t.cycles))
    = some (0xFFFF, 0x0101, 5) := by decide

/-- V-RST-0 -/
theorem test_rst_0 :
    after [0xC7] { base with pc := 0x0000, sp := 0x3000 }
      (fun t => (t.sp, t.byteAt 0x2FFE, t.byteAt 0x2FFF, t.pc, t.cycles))
    = some (0x2FFE, 0x01, 0x00, 0x0000, 11) := by decide

/-- V-RST-1 -/
theorem test_rst_1 :
    after [0xCF] { base with sp := 0x3000 }
      (fun t => (t.sp, t.byteAt 0x2FFE, t.byteAt 0x2FFF, t.pc, t.cycles))
    = some (0x2FFE, 0x01, 0x01, 0x0008, 11) := by decide

/-- V-RST-7 -/
theorem test_rst_7 :
    after [0xFF] { base with sp := 0x3000 }
      (fun t => (t.sp, t.byteAt 0x2FFE, t.byteAt 0x2FFF, t.pc, t.cycles))
    = some (0x2FFE, 0x01, 0x01, 0x0038, 11) := by decide

/-- V-NOPA-08 -/
theorem test_nop_08 :
    after [0x08] base
      (fun t => (t.pc, t.cycles))
    = some (0x0101, 4) := by decide

/-- V-HLT-2 -/
theorem test_hlt_at_the_top_of_memory :
    after [0x76] { base with pc := 0xFFFF }
      (fun t => (t.pc, t.cycles))
    = some (0xFFFF, 7) := by decide

/-- V-EI-1 -/
theorem test_ei :
    after [0xFB] base
      (fun t => (t.iff, t.events, t.pc, t.cycles))
    = some (true, [.notifyIff true], 0x0101, 4) := by decide

/-- V-DI-1 -/
theorem test_di_notifies_without_a_change :
    after [0xF3] base
      (fun t => (t.iff, t.events, t.pc, t.cycles))
    = some (false, [.notifyIff false], 0x0101, 4) := by decide

/-- V-IN-1 -/
theorem test_in :
    after [0xDB, 0xFF] { base with portAnswers := [0x80], flags := ⟨false, true, false, false, false⟩ }
      (fun t => (t.a, t.flags, t.events, t.pc, t.cycles))
    = some (0x80, ⟨false, true, false, false, false⟩, [.portIn 0xFF 0x80], 0x0102, 10) := by decide

/-- V-OUT-1 -/
theorem test_out :
    after [0xD3, 0x00] { base with a := 0xFF }
      (fun t => (t.events, t.pc, t.cycles))
    = some ([.portOut 0x00 0xFF], 0x0102, 10) := by decide

/-! ## One instruction of each family, its word written out bit by bit (R81, R92-R95) -/

theorem test_decode_move_words :
    decode [0b01_011_010#8] = .ok (.movED, []) ∧ decode [0b01_110_111#8] = .ok (.movMA, []) ∧
    decode [0b00_101_110#8, 0x7F] = .ok (.mviL 0x7F, []) ∧ decode [0b00_11_0001#8, 0xFE, 0xFF] = .ok (.lxiSP 0xFFFE, []) ∧
    decode [0b000_0_1010#8] = .ok (.ldaxB, []) ∧ decode [0b000_1_0010#8] = .ok (.staxD, []) :=
  ⟨rfl, rfl, rfl, rfl, rfl, rfl⟩

theorem test_decode_direct_exchange_and_stack_words :
    decode [0b0011_1010#8, 0x01, 0x80] = .ok (.lda 0x8001, []) ∧ decode [0b0011_0010#8, 0x01, 0x80] = .ok (.sta 0x8001, []) ∧
    decode [0b0010_1010#8, 0x01, 0x80] = .ok (.lhld 0x8001, []) ∧ decode [0b1110_1011#8] = .ok (.xchg, []) ∧
    decode [0b1110_0011#8] = .ok (.xthl, []) ∧ decode [0b1111_1001#8] = .ok (.sphl, []) ∧
    decode [0b11_01_0101#8] = .ok (.pushD, []) ∧ decode [0b11_10_0001#8] = .ok (.popH, []) ∧
    decode [0b11_11_0001#8] = .ok (.popPSW, []) :=
  ⟨rfl, rfl, rfl, rfl, rfl, rfl, rfl, rfl, rfl⟩

theorem test_decode_arithmetic_words :
    decode [0b00_011_100#8] = .ok (.inrE, []) ∧ decode [0b00_110_101#8] = .ok (.dcrM, []) ∧
    decode [0b10_001_110#8] = .ok (.adcM, []) ∧ decode [0b10_101_011#8] = .ok (.xraE, []) ∧
    decode [0b11_011_110#8, 0x80] = .ok (.sbi 0x80, []) ∧ decode [0b00_01_1001#8] = .ok (.dadD, []) ∧
    decode [0b00_10_0011#8] = .ok (.inxH, []) ∧ decode [0b00_11_1011#8] = .ok (.dcxSP, []) ∧
    decode [0b0001_0111#8] = .ok (.ral, []) ∧ decode [0b0010_0111#8] = .ok (.daa, []) ∧
    decode [0b0011_1111#8] = .ok (.cmc, []) :=
  ⟨rfl, rfl, rfl, rfl, rfl, rfl, rfl, rfl, rfl, rfl, rfl⟩

theorem test_decode_control_and_system_words :
    decode [0b11_100_010#8, 0x01, 0x80] = .ok (.jpo 0x8001, []) ∧ decode [0b11_111_100#8, 0x01, 0x80] = .ok (.cm 0x8001, []) ∧
    decode [0b11_110_000#8] = .ok (.rp, []) ∧ decode [0b11_101_111#8] = .ok (.rst5, []) ∧
    decode [0b1110_1001#8] = .ok (.pchl, []) ∧ decode [0b1100_1011#8, 0x01, 0x80] = .ok (.jmpCB 0x8001, []) ∧
    decode [0b1101_0011#8, 0xFF] = .ok (.outPort 0xFF, []) ∧ decode [0b1111_1011#8] = .ok (.ei, []) ∧
    decode [0b1111_0011#8] = .ok (.di, []) ∧ decode [0b0011_1000#8] = .ok (.nop38, []) :=
  ⟨rfl, rfl, rfl, rfl, rfl, rfl, rfl, rfl, rfl, rfl⟩

/-! ## The host's side -/

/-- The first step after reset runs the instruction that `withFetchWord` placed. -/
theorem test_with_fetch_word_runs_first :
    step (State.reset.withFetchWord 16 0x423E) = exec (.mviA 0x42)
      { (State.reset.withFetchWord 16 0x423E).fetched 2 with cycles := 7 } := rfl

/-- V-RESET-1 -/
theorem test_reset_of_a_set_machine :
    State.hostReset 0x0100 Config.resetRegs { base with flags := ⟨true, true, true, true, true⟩, iff := true, pc := 0x1234 }
    = base := by decide

/-- V-FJ-1 -/
theorem test_force_jump_keeps_16_bits : base.forceJump 0x12345 = { base with pc := 0x2345 } := by decide

/-- R36 -/
theorem test_accessors_read_the_pairs :
    (State.accessors { base with h := 0x12, l := 0x34, sp := 0xFFFF }).hl = 0x1234 := by decide

/-- R60, R62: the record keeps the order, and the events are the port transactions and notifications alone. -/
theorem test_record_of_a_push :
    after [0xC5] { base with b := 0x12, c := 0x34, sp := 0x3000 } State.trace
    = some [.memWriteWord 0x2FFE 0x1234, .memReadByte 0x0100 0xC5] := by decide

/-- A port input with no answer ready completes, whatever the free value is (R62). -/
theorem test_in_without_an_answer :
    after [0xDB, 0x10] base (fun t => (t.portDraws, t.pc)) = some (1, 0x0102) := by decide

/-- R302: the sentinel is negative. -/
theorem test_decode_failure_sentinel_is_negative : Config.decodeFailSentinel < 0 := by
  unfold Config.decodeFailSentinel
  omega

/-! ## Witnesses: for each statement with hypotheses, a state and operands that meet them all -/

/-- The code placed at PC. -/
def placed (code : List Byte) (s : State) : State := s.hostStore s.pc code

/-- A state at the edge of the address space: PC, SP and HL at FFFF. -/
def edge : State := { base with pc := 0xFFFF, sp := 0xFFFF, h := 0xFF, l := 0xFF, a := 0x76 }

theorem witness_EncodeOfDecodeGivesTheBytes : decode [0x3E, 0x42, 0x76] = .ok (.mviA 0x42, [0x76]) := rfl

theorem witness_OpcodeByteAloneDecidesTheLength :
    decode [0x76, 0x01] = .ok (.hlt, [0x01]) ∧ decode [0xDB, 0xFF] = .ok (.inPort 0xFF, []) ∧
    decode [0xFD, 0xFF, 0xFF] = .ok (.callFD 0xFFFF, []) := ⟨rfl, rfl, rfl⟩

theorem witness_UndocumentedBytesExecuteAsTheirInstructions :
    (0x38#8, Instr.nop38) ∈ [(0x08#8, Instr.nop08), (0x10#8, .nop10), (0x18#8, .nop18), (0x20#8, .nop20), (0x28#8, .nop28),
      (0x30#8, .nop30), (0x38#8, .nop38)] ∧
    (0xFD#8, Instr.callFD 0xFFFF) ∈ [(0xDD#8, Instr.callDD 0xFFFF), (0xED#8, .callED 0xFFFF), (0xFD#8, .callFD 0xFFFF)] := by
  decide

theorem witness_EncodingsFollowTheOpcodePatterns :
    Instr.mov .m .a = some .movMA ∧ Instr.stax .de = some .staxD ∧ Instr.ldax .bc = some .ldaxB ∧
    Instr.pop .hl = some .popH ∧ Instr.push .bc = some .pushB ∧ (0xD9#8, Instr.retD9) ∈
      [(0x00#8, Instr.nop), (0x07, .rlc), (0x0F, .rrc), (0x17, .ral), (0x1F, .rar), (0x27, .daa), (0x2F, .cma), (0x37,
      .stc), (0x3F, .cmc), (0x76, .hlt), (0xC9, .ret), (0xE3, .xthl), (0xE9, .pchl), (0xEB, .xchg), (0xF1, .popPSW),
      (0xF3, .di), (0xF5, .pushPSW), (0xF9, .sphl), (0xFB, .ei), (0x08, .nop08), (0x10, .nop10), (0x18, .nop18), (0x20,
      .nop20), (0x28, .nop28), (0x30, .nop30), (0x38, .nop38), (0xD9, .retD9)] ∧
    (0xFD#8, Instr.callFD 0xFFFF) ∈
      [(0x22#8, Instr.shld 0xFFFF), (0x2A, .lhld 0xFFFF), (0x32, .sta 0xFFFF), (0x3A, .lda 0xFFFF), (0xC3, .jmp 0xFFFF),
      (0xCD, .call 0xFFFF), (0xCB, .jmpCB 0xFFFF), (0xDD, .callDD 0xFFFF), (0xED, .callED 0xFFFF), (0xFD, .callFD
      0xFFFF)] :=
  ⟨rfl, rfl, rfl, rfl, rfl, by decide, by decide⟩

theorem witness_StepRunsTheDecodedInstruction :
    let s := placed [0xC3, 0x34, 0x12] edge
    decode [s.byteAt s.pc, s.byteAt (s.pc + 1), s.byteAt (s.pc + 2)] = .ok (.jmp 0x1234, []) := rfl

theorem witness_StepReturnsTheCycleTableEntry :
    (∃ t, stepWith (fun _ _ => 1) (placed [0xF8] edge) = .next t) ∧
    decode (placed [0xF8] edge).fetchWindow = .ok (Instr.rcc .m, [0, 0]) := ⟨⟨_, rfl⟩, rfl⟩

theorem witness_StepCycleCountsAreThoseOfTheDefaultTable :
    State.byteAt (placed [0x3E] edge) edge.pc = 0x3E ∧ State.byteAt (placed [0xFF] edge) edge.pc = 0xFF ∧
    State.byteAt (placed [0x38] edge) edge.pc ∈ [0x00#8, 0x08, 0x10, 0x18, 0x20, 0x28, 0x30, 0x38] ∧
    State.byteAt (placed [0xFC] edge) edge.pc = (0b11#2 ++ Cond.m.bits ++ 0b100#3 : BitVec 8) ∧
    State.byteAt (placed [0xC0] edge) edge.pc = (0b11#2 ++ Cond.nz.bits ++ 0b000#3 : BitVec 8) ∧
    State.byteAt (placed [0xFA] edge) edge.pc = (0b11#2 ++ Cond.m.bits ++ 0b010#3 : BitVec 8) ∧
    Reg8.b ≠ .m ∧ Reg8.a ≠ .m := by decide

theorem witness_StepsOnlyAddToTheRecordStartingWithTheOpcodeFetch :
    decode (placed [0xE3] edge).fetchWindow = .ok (.xthl, [0, 0]) ∧ ∃ t, step (placed [0xE3] edge) = .next t :=
  ⟨rfl, _, rfl⟩

theorem witness_StepKeepsMemoryCanonical :
    MemoryCanonical (placed [0xC5] edge) ∧ ∃ t, step (placed [0xC5] edge) = .next t := ⟨rfl, _, rfl⟩

/-- A state whose record holds a read and a write already. -/
def recorded : State := State.memWriteByte ((placed [0xE3] edge).memReadByte 0x0000).2 0x2000 0x55

theorem witness_StepKeepsReadsTheLatestWrites :
    Coherent (placed [0xE3] edge).mem recorded ∧ ∃ t, step recorded = .next t := ⟨⟨rfl, rfl, trivial⟩, _, rfl⟩

theorem witness_StepKeepsIffAsNotified :
    IffReported { placed [0xF3] edge with iff := true, trace := [.notifyIff true] } ∧
    ∃ t, step { placed [0xF3] edge with iff := true, trace := [.notifyIff true] } = .next t := ⟨rfl, _, rfl⟩

theorem witness_FlagsChangeOnlyWhereTheirWritersAreListed :
    (∃ t, exec .dadSP edge = .next t) ∧ writesSZHP Instr.dadSP.form = false ∧
    (∃ t, exec .inrM edge = .next t) ∧ writesC Instr.inrM.form = false := ⟨⟨_, rfl⟩, rfl, ⟨_, rfl⟩, rfl⟩

theorem witness_RegistersChangeOnlyWhereTheirWritersAreListed :
    (∃ t, exec .movMA edge = .next t) ∧ Reg8.a ≠ .m ∧ Reg8.a ∉ destinations Instr.movMA.form ∧
    writesSP Instr.movMA.form = false ∧ writesPC Instr.movMA.form = false ∧ writesIff Instr.movMA.form = false :=
  ⟨⟨_, rfl⟩, by decide, by decide, rfl, rfl, rfl⟩

theorem witness_MemoryChangesOnlyAtTheStoredBytes :
    (∃ t, exec (.shld 0xFFFF) edge = .next t) ∧ (0x0001 : Word) ∉ storedAt (.shld 0xFFFF) edge ∧
    (∃ t, exec .addM edge = .next t) ∧ edge.hl ∉ storedAt .addM edge ∧
    (∃ t, exec (.cz 0x1234) edge = .next t) ∧ (0xFFFD : Word) ∉ storedAt (.cz 0x1234) edge ∧
    (∃ t, exec (.cnz 0x1234) edge = .next t) ∧ (0x0000 : Word) ∉ storedAt (.cnz 0x1234) edge :=
  ⟨⟨_, rfl⟩, by decide, ⟨_, rfl⟩, by decide, ⟨_, rfl⟩, by decide, ⟨_, rfl⟩, by decide⟩

theorem witness_PcAdvancesPastEveryInstructionThatDoesNotTransfer :
    decode (placed [0x2A, 0xFF, 0xFF] edge).fetchWindow = .ok (.lhld 0xFFFF, []) ∧
    writesPC (Instr.lhld 0xFFFF).form = false := ⟨rfl, rfl⟩

theorem witness_RegisterSelectorsNameTheRegistersAndM : Reg8.b ≠ .m ∧ Reg8.a ≠ .m := by decide

theorem witness_WordAccessesAreLittleEndianAndWrap :
    Memory.wf [(0, 1), (65535, 2)] = true ∧ (0x0001 : Word) ≠ 0xFFFF ∧ (0x0001 : Word) ≠ 0xFFFF + 1 := by decide

theorem witness_MovAndMviMoveBytes : Instr.mov .h .m = some .movHM ∧ Instr.mov .m .l = some .movML := ⟨rfl, rfl⟩

theorem witness_DirectAndIndirectStores :
    MemoryCanonical edge ∧ (Instr.staxB, edge.bc) ∈ [(Instr.sta 0xFFFF, 0xFFFF), (.staxB, edge.bc), (.staxD, edge.de)] ∧
    (0x0001 : Word) ≠ 0xFFFF ∧ (0x0001 : Word) ≠ 0xFFFF + 1 := ⟨rfl, by decide, by decide, by decide⟩

theorem witness_XchgAndSphlMoveTheirPairs : ∃ t, exec .xchg edge = .next t := ⟨_, rfl⟩

theorem witness_XthlExchangesHlWithTheStackTop :
    MemoryCanonical edge ∧ (0x0001 : Word) ≠ edge.sp ∧ (0x0001 : Word) ≠ edge.sp + 1 :=
  ⟨rfl, by decide, by decide⟩

theorem witness_PushStoresBelowTheStackPointer :
    MemoryCanonical { base with sp := 1 } ∧
    (Instr.pushB, base.bc) ∈ [(Instr.pushB, base.bc), (.pushD, base.de), (.pushH, base.hl),
      (.pushPSW, base.a ++ packFlags base.flags)] ∧
    (0x0001 : Word) ≠ 1 - 2 ∧ (0x0001 : Word) ≠ 1 - 1 := ⟨rfl, by decide, by decide, by decide⟩

theorem witness_PushThenPopRestoresThePair :
    MemoryCanonical { base with sp := 1 } ∧
    (Instr.pushPSW, Instr.popPSW) ∈ [(Instr.pushB, Instr.popB), (.pushD, .popD), (.pushH, .popH), (.pushPSW, .popPSW)] :=
  ⟨rfl, by decide⟩

theorem witness_CmpSetsTheFlagsOfSubAndKeepsA :
    (∃ t, exec (.cpi 0x06) edge = .next t) ∧ ∃ u, exec (.sui 0x06) edge = .next u := ⟨⟨_, rfl⟩, _, rfl⟩

theorem witness_DaaMakesBinarySumsDecimal :
    Expected.validBcd 0x99 ∧ Expected.validBcd 0x00 ∧ Expected.validBcd 0x38 := by
  unfold Expected.validBcd
  decide

theorem witness_RotatesComplementAndCarryInstructions : ∃ t, exec .cmc edge = .next t := ⟨_, rfl⟩

theorem witness_CallsAndRestartsPushTheNextAddressAndJump :
    Instr.callFD 0xFFFF ∈ [Instr.call 0xFFFF, .callDD 0xFFFF, .callED 0xFFFF, .callFD 0xFFFF] := by decide

theorem witness_ReturnsPopPc : Instr.retD9 ∈ [Instr.ret, .retD9] := by decide

theorem witness_CallThenReturnRestoresPcAndSp :
    MemoryCanonical edge ∧ Instr.callFD 0xFFFF ∈ [Instr.call 0xFFFF, .callDD 0xFFFF, .callED 0xFFFF, .callFD 0xFFFF] ∧
    condHolds .nz edge.flags = true ∧ Instr.ccc .nz 0xFFFF = .cnz 0xFFFF ∧ Instr.rst 7 = .rst7 ∧
    Instr.retD9 ∈ [Instr.ret, .retD9] ∧ condHolds .p edge.flags = true ∧ Instr.rcc .p = .rp :=
  ⟨rfl, by decide, rfl, rfl, rfl, by decide, rfl, rfl⟩

theorem witness_NopAndHaltMoveOnlyPc :
    Instr.nop38 ∈ [Instr.nop, .nop08, .nop10, .nop18, .nop20, .nop28, .nop30, .nop38] ∧
    State.byteAt (placed [0x38] edge) edge.pc ∈ [0x00#8, 0x08, 0x10, 0x18, 0x20, 0x28, 0x30, 0x38] ∧
    State.byteAt (placed [0x76] edge) edge.pc = 0x76 := by decide

theorem witness_PortInputAndOutput :
    State.portAnswers { edge with portAnswers := [0x80, 0x01] } = 0x80 :: [0x01] ∧ edge.portAnswers = [] := ⟨rfl, rfl⟩

theorem witness_HaltedLastsUntilTheHostIntervenes :
    (placed [0x76] edge).halted = true ∧ endState 1 (placed [0x00, 0x76] edge) ≠ none ∧
    endState 1 (placed [0x00, 0x00, 0x76] edge) = none ∧
    ∃ u, Host.Core.run Sys2Proof.core 1 (placed [0x00, 0x00, 0x76] edge) = .next u :=
  ⟨by decide, by decide, by decide, _, rfl⟩

theorem witness_ForceJumpSetsPcAlone :
    decode [State.byteAt (placed [0x76] edge) (BitVec.ofNat 16 0x1FFFF), State.byteAt (placed [0x76] edge) (BitVec.ofNat 16 0x1FFFF + 1),
      State.byteAt (placed [0x76] edge) (BitVec.ofNat 16 0x1FFFF + 2)] = .ok (.hlt, [0, 0]) := rfl

/-- SHLD FFFF at FFFF with HL = FFFF stores FF over its own opcode and at 0000, where its operand was, in one write. -/
theorem witness_StoredCodeIsWhatTheNextFetchExecutes_stores :
    let s := placed [0x22, 0xFF, 0xFF] edge
    let data : List Transaction := [.memWriteWord 0xFFFF 0xFFFF]
    MemoryCanonical s ∧ decode s.fetchWindow = .ok (.shld 0xFFFF, []) ∧
    (∃ t, step s = .next t ∧ t.trace = data ++ (s.fetchReads (Instr.shld 0xFFFF).length ++ s.trace)) ∧
    ((0x0000 : Word), (0xFF : Byte)) ∈ data.flatMap Expected.writtenBytes ∧
    (0x0001 : Word) ∉ storedAt (.shld 0xFFFF) (s.fetched (Instr.shld 0xFFFF).length) :=
  ⟨rfl, rfl, ⟨_, rfl, rfl⟩, by decide, by decide⟩

/-- STA FFFF+3 at FFFF stores A = 76 at 0002, where the next step fetches HLT. -/
theorem witness_StoredCodeIsWhatTheNextFetchExecutes_sta :
    MemoryCanonical (placed [0x32, 0x02, 0x00] edge) ∧
    decode (placed [0x32, 0x02, 0x00] edge).fetchWindow = .ok (.sta ((placed [0x32, 0x02, 0x00] edge).pc + 3), []) ∧
    encode .hlt = [(placed [0x32, 0x02, 0x00] edge).a] ∧
    ∃ t u, step (placed [0x32, 0x02, 0x00] edge) = .next t ∧ step t = .next u :=
  ⟨rfl, rfl, rfl, _, _, rfl, rfl⟩

end Sys2Proof.Tests
end

section
/-! SUPPORT and O44. DAA after a binary sum of packed decimal bytes (spec/40_alu_ops.md R113, R116, R125). The idea: after the sum,
DAA's two conditions are exactly the two decimal carries, out of the low digit and out of the whole byte; so its correction
replaces each binary carry by the decimal one. -/

namespace Sys2Proof.Machine

open Sys2Proof.Expected

/-! ## The sum -/

/-- The table of R113 in words: the carry out of bit 3, from the operands' bits and the sum's. -/
theorem addHalf_eq_ite (a v : Byte) (w : Word) :
    addHalf a v w =
      if w.getLsbD 3 then a.getLsbD 3 && v.getLsbD 3 else a.getLsbD 3 || v.getLsbD 3 := by
  unfold addHalf hcIndex
  cases a.getLsbD 3 <;> cases v.getLsbD 3 <;> cases w.getLsbD 3 <;> rfl

/-- fH of an addition is the carry out of the low nibble (R113). -/
theorem addHalf_wideAdd (a v : Byte) (cin : Bool) :
    addHalf a v (wideAdd a v cin) = decide (15 < a.toNat % 16 + v.toNat % 16 + cin.toNat) := by
  have hc := cin.toNat_le
  rw [addHalf_eq_ite, Bool.eq_iff_iff]
  simp only [getLsbD_eq_decide, wideAdd_toNat, decide_eq_true_eq]
  split
  · simp only [Bool.and_eq_true, decide_eq_true_eq]
    omega
  · simp only [Bool.or_eq_true, decide_eq_true_eq]
    omega

theorem State.aluAdd_a_toNat (s : State) (v : Byte) (cin : Bool) :
    (s.aluAdd v cin).a.toNat = (s.a.toNat + v.toNat + cin.toNat) % 256 := by
  simp only [State.aluAdd, Word.toNat_lo, wideAdd_toNat]

theorem State.aluAdd_fH (s : State) (v : Byte) (cin : Bool) :
    (s.aluAdd v cin).flags.fH = decide (15 < s.a.toNat % 16 + v.toNat % 16 + cin.toNat) :=
  addHalf_wideAdd s.a v cin

theorem State.aluAdd_fC (s : State) (v : Byte) (cin : Bool) :
    (s.aluAdd v cin).flags.fC = decide (255 < s.a.toNat + v.toNat + cin.toNat) :=
  wideAdd_carry s.a v cin

/-! ## DAA -/

theorem daaCorrection_toNat (a : Byte) (f : Flags) :
    (daaCorrection a f).toNat = 6 * (daaLow a f).toNat + 96 * (daaHigh a f).toNat := by
  unfold daaCorrection
  cases daaLow a f <;> cases daaHigh a f <;> rfl

theorem State.daaOp_a_toNat (s : State) :
    s.daaOp.a.toNat = (s.a.toNat + (6 * (daaLow s.a s.flags).toNat + 96 * (daaHigh s.a s.flags).toNat)) % 256 := by
  calc s.daaOp.a.toNat
    _ = (s.aluAdd (daaCorrection s.a s.flags) false).a.toNat := rfl
    _ = _ := by rw [State.aluAdd_a_toNat, daaCorrection_toNat, Bool.toNat_false, Nat.add_zero]

/-! ## Decimal digits -/

/-- A valid packed decimal byte is its two digits. -/
theorem exists_digits_of_validBcd {v : Byte} (hv : validBcd v) :
    ∃ y₁ y₀, y₁ ≤ 9 ∧ y₀ ≤ 9 ∧ v.toNat = 16 * y₁ + y₀ ∧ bcd v = 10 * y₁ + y₀ :=
  ⟨v.toNat / 16, v.toNat % 16, hv.1, hv.2, (Nat.div_add_mod _ 16).symm, rfl⟩

/-- Adding 6 for a carry out of the low decimal digit and 96 for one into the hundreds turns the binary sum of two
packed decimal numbers into their packed decimal sum. -/
theorem correct_binary_sum {x₁ x₀ y₁ y₀ c sum : Nat} (hx₁ : x₁ ≤ 9) (hx₀ : x₀ ≤ 9) (hy₁ : y₁ ≤ 9) (hy₀ : y₀ ≤ 9)
    (hc : c ≤ 1) (hsum : sum = 10 * x₁ + x₀ + (10 * y₁ + y₀) + c) :
    (16 * x₁ + x₀ + (16 * y₁ + y₀) + c +
      (6 * (decide (9 < x₀ + y₀ + c)).toNat + 96 * (decide (100 ≤ sum)).toNat)) % 256 =
    16 * (sum / 10 % 10) + sum % 10 := by
  have low : (decide (9 < x₀ + y₀ + c)).toNat = (x₀ + y₀ + c) / 10 := by
    rw [Bool.toNat, Bool.cond_decide]
    split <;> omega
  have high : (decide (100 ≤ sum)).toNat = sum / 100 := by
    rw [Bool.toNat, Bool.cond_decide]
    split <;> omega
  have units : x₀ + y₀ + c = 10 * ((x₀ + y₀ + c) / 10) + sum % 10 := by omega
  have tens : x₁ + y₁ + (x₀ + y₀ + c) / 10 = 10 * (sum / 100) + sum / 10 % 10 := by omega
  rw [low, high]
  omega

/-! ## DAA after a sum of packed decimal bytes -/

section Sum

variable {s : State} {v : Byte} (cin : Bool)

/-- The low-nibble condition is the decimal carry out of the low digit. -/
theorem daaLow_aluAdd (ha : validBcd s.a) (hv : validBcd v) :
    daaLow (s.aluAdd v cin).a (s.aluAdd v cin).flags = decide (9 < s.a.toNat % 16 + v.toNat % 16 + cin.toNat) := by
  obtain ⟨-, ha₀⟩ := ha
  obtain ⟨-, hv₀⟩ := hv
  have hc := cin.toNat_le
  rw [daaLow, State.aluAdd_fH, State.aluAdd_a_toNat, Bool.eq_iff_iff]
  simp only [Bool.or_eq_true, decide_eq_true_eq]
  omega

/-- The high-nibble decision is the decimal carry into the hundreds. -/
theorem daaHigh_aluAdd (ha : validBcd s.a) (hv : validBcd v) :
    daaHigh (s.aluAdd v cin).a (s.aluAdd v cin).flags = decide (100 ≤ bcd s.a + bcd v + cin.toNat) := by
  obtain ⟨x₁, x₀, hx₁, hx₀, hx, hbx⟩ := exists_digits_of_validBcd ha
  obtain ⟨y₁, y₀, hy₁, hy₀, hy, hby⟩ := exists_digits_of_validBcd hv
  have hc := cin.toNat_le
  rw [daaHigh, State.aluAdd_fC, State.aluAdd_a_toNat, hx, hy, hbx, hby, Bool.eq_iff_iff]
  simp only [Bool.or_eq_true, Bool.and_eq_true, decide_eq_true_eq]
  omega

/-- The corrected sum holds the two decimal digits of the decimal sum. -/
theorem daaOp_aluAdd_a_toNat (ha : validBcd s.a) (hv : validBcd v) :
    (s.aluAdd v cin).daaOp.a.toNat =
      16 * ((bcd s.a + bcd v + cin.toNat) / 10 % 10) + (bcd s.a + bcd v + cin.toNat) % 10 := by
  have digits := correct_binary_sum ha.1 ha.2 hv.1 hv.2 cin.toNat_le (sum := bcd s.a + bcd v + cin.toNat) rfl
  rw [Nat.div_add_mod, Nat.div_add_mod] at digits
  rw [State.daaOp_a_toNat, daaLow_aluAdd cin ha hv, daaHigh_aluAdd cin ha hv, State.aluAdd_a_toNat, Nat.mod_add_mod]
  exact digits

/-- DAA turns the binary sum of two packed decimal bytes and a carry into their decimal sum. -/
theorem daaOp_aluAdd_decimal (ha : validBcd s.a) (hv : validBcd v) :
    validBcd (s.aluAdd v cin).daaOp.a ∧ bcd (s.aluAdd v cin).daaOp.a = (bcd s.a + bcd v + cin.toNat) % 100 ∧
      (s.aluAdd v cin).daaOp.flags.fC = decide (100 ≤ bcd s.a + bcd v + cin.toNat) := by
  have digits := daaOp_aluAdd_a_toNat cin ha hv
  have valid : validBcd (s.aluAdd v cin).daaOp.a := by
    unfold validBcd
    omega
  have value : bcd (s.aluAdd v cin).daaOp.a = (bcd s.a + bcd v + cin.toNat) % 100 := by
    rw [bcd]
    omega
  exact ⟨valid, value, daaHigh_aluAdd cin ha hv⟩

end Sum

/-- Settles O44: ADI and ACI are the sum with no carry in and with fC. -/
theorem daaMakesBinarySumsDecimal : Obligations.DaaMakesBinarySumsDecimal := by
  intro s v ha hv
  exact ⟨⟨s.aluAdd v false, _, rfl, rfl, daaOp_aluAdd_decimal false ha hv⟩,
    ⟨s.aluAdd v s.flags.fC, _, rfl, rfl, daaOp_aluAdd_decimal s.flags.fC ha hv⟩⟩

end Sys2Proof.Machine
end

section
/-! SUPPORT. What each instruction does, said once: the next state is a function of the form and the operands alone, so that a fact
about every instruction is a case split over the forms. -/

namespace Sys2Proof

/-- The operand byte d8 or p8 (R82); zero where the instruction has none. -/
def Instr.operandByte : Instr → Byte
  | .mviB v | .mviC v | .mviD v | .mviE v | .mviH v | .mviL v | .mviM v | .mviA v => v
  | .adi v | .aci v | .sui v | .sbi v | .ani v | .xri v | .ori v | .cpi v => v
  | .outPort p | .inPort p => p
  | _ => 0

/-- The operand word d16 or a16 (R82); zero where the instruction has none. -/
def Instr.operandWord : Instr → Word
  | .lxiB v | .lxiD v | .lxiH v | .lxiSP v => v
  | .shld a | .lhld a | .sta a | .lda a | .jmp a | .jmpCB a | .call a | .callDD a | .callED a | .callFD a => a
  | .jnz a | .jz a | .jnc a | .jc a | .jpo a | .jpe a | .jp a | .jm a => a
  | .cnz a | .cz a | .cnc a | .cc a | .cpo a | .cpe a | .cp a | .cm a => a
  | _ => 0

end Sys2Proof

namespace Sys2Proof.Machine

/-- The state with A replaced by the rotated byte and fC by the bit rotated out (R172-R175). -/
def State.rotated (s : State) (v : Byte) (carry : Bool) : State := { s with a := v, flags := { s.flags with fC := carry } }

/-- The state after an instruction of the form ran with operand byte `v` and operand word `w`, whichever of them it has. -/
def formEffect (v : Byte) (w : Word) (s : State) : Form → State
  | .nop => s
  | .hlt => { s with pc := s.pc - 1 }
  | .ei => State.notifyIff { s with iff := true } true
  | .di => State.notifyIff { s with iff := false } false
  | .inPort => { (s.portInput v).2 with a := s.portValue v }
  | .outPort => s.portOutput v s.a
  | .mov dst src => (s.afterReg8 src).setReg8 dst (s.reg8 src)
  | .mvi dst => s.setReg8 dst v
  | .lxi p => s.setPair p w
  | .lda => { (s.memReadByte w).2 with a := s.byteAt w }
  | .sta => s.memWriteByte w s.a
  | .lhld => (s.memReadWord w).2.setPair .hl (s.wordAt w)
  | .shld => s.memWriteWord w s.hl
  | .ldax p => { (s.memReadByte (s.pair p)).2 with a := s.byteAt (s.pair p) }
  | .stax p => s.memWriteByte (s.pair p) s.a
  | .xchg => (s.setPair .de s.hl).setPair .hl s.de
  | .xthl => ((s.memReadWord s.sp).2.memWriteWord s.sp s.hl).setPair .hl (s.wordAt s.sp)
  | .sphl => { s with sp := s.hl }
  | .push p => s.push (s.pair p)
  | .pushPSW => s.push (Word.ofBytes s.a (packFlags s.flags))
  | .pop p => s.pop.2.setPair p (s.wordAt s.sp)
  | .popPSW => { s.pop.2 with a := Word.hi (s.wordAt s.sp), flags := unpackFlags (Word.lo (s.wordAt s.sp)) }
  | .inr r =>
    State.setReg8 { s.afterReg8 r with flags := incFlags s.flags (s.reg8 r) } r (Word.lo (wideAdd (s.reg8 r) 1 false))
  | .dcr r =>
    State.setReg8 { s.afterReg8 r with flags := decFlags s.flags (s.reg8 r) } r (Word.lo (wideSub (s.reg8 r) 1 false))
  | .alu o src => (s.afterReg8 src).aluOp o (s.reg8 src)
  | .aluImm o => s.aluOp o v
  | .dad p => s.dadOp (s.pair p)
  | .daa => s.daaOp
  | .inx p => s.setPair p (s.pair p + 1)
  | .dcx p => s.setPair p (s.pair p - 1)
  | .rlc => s.rotated (s.a <<< 1 ||| bitByte (s.a.getLsbD 7)) (s.a.getLsbD 7)
  | .rrc => s.rotated (s.a >>> 1 ||| bitByte (s.a.getLsbD 0) <<< 7) (s.a.getLsbD 0)
  | .ral => s.rotated (s.a <<< 1 ||| bitByte s.flags.fC) (s.a.getLsbD 7)
  | .rar => s.rotated (s.a >>> 1 ||| bitByte s.flags.fC <<< 7) (s.a.getLsbD 0)
  | .cma => { s with a := ~~~s.a }
  | .stc => { s with flags := { s.flags with fC := true } }
  | .cmc => { s with flags := { s.flags with fC := !s.flags.fC } }
  | .jmp => { s with pc := w }
  | .jcc cond => if condHolds cond s.flags then { s with pc := w } else s
  | .call => s.callTo w
  | .ccc cond => if condHolds cond s.flags then s.callTo w else s
  | .ret => s.returnFrom
  | .rcc cond => if condHolds cond s.flags then s.returnFrom else s
  | .rst n => s.callTo (restartVector n)
  | .pchl => { s with pc := s.hl }

/-- Every instruction completes, and its form and operands say how. -/
theorem exec_eq_formEffect (i : Instr) (s : State) :
    exec i s = .next (formEffect i.operandByte i.operandWord s i.form) := by
  cases i <;> rfl

/-- The next state of an instruction that completed. -/
theorem eq_formEffect_of_exec {i : Instr} {s t : State} (h : exec i s = .next t) :
    t = formEffect i.operandByte i.operandWord s i.form :=
  (Host.Outcome.next.inj ((exec_eq_formEffect i s).symm.trans h)).symm

end Sys2Proof.Machine
end

section
/-! SUPPORT and O16. IFF and its notifications (spec/10_state.md R29, spec/44_system.md R272, R273). -/

namespace Sys2Proof.Machine

/-- EI and DI notify the value they write; no other form writes IFF or notifies. -/
theorem iffReported_formEffect {s : State} (hs : IffReported s) (v : Byte) (w : Word) (f : Form) :
    IffReported (formEffect v w s f) := by
  cases f with
  | ei => exact IffReported.notified s true
  | di => exact IffReported.notified s false
  | mov dst src => exact (hs.afterReg8 src).setReg8 dst _
  | mvi dst => exact hs.setReg8 dst v
  | inr r | dcr r =>
    refine IffReported.setReg8 ?_ r _
    exact hs.afterReg8 r
  | alu o src => exact (hs.afterReg8 src).of_same (State.aluOp_iff ..) (congrArg notifiedIff (State.aluOp_trace ..))
  | aluImm o => exact hs.of_same (State.aluOp_iff ..) (congrArg notifiedIff (State.aluOp_trace ..))
  | lxi p | inx p | dcx p => exact hs.setPair p _
  | pop p =>
    refine IffReported.setPair ?_ p _
    exact hs
  | jcc | ccc | rcc =>
    simp only [formEffect]
    split <;> exact hs
  | _ => exact hs

/-- Settles O16: the fetch only adds reads to the record, and then the instruction keeps IFF as notified. -/
theorem stepKeepsIffAsNotified : Obligations.StepKeepsIffAsNotified := by
  intro s t hs hstep
  obtain ⟨i, u, -, -, hexec, rfl⟩ := stepWith_next hstep
  obtain rfl := eq_formEffect_of_exec hexec
  exact iffReported_formEffect (hs.fetched i.length) i.operandByte i.operandWord i.form

end Sys2Proof.Machine
end

section
/-! SUPPORT, O17 and O18. What the forms leave unchanged, register by register (spec/10_state.md R33, R35). A form that is listed
as a writer contradicts the hypothesis; every other form keeps the field by the laws of the operation it is made of. -/

namespace Sys2Proof.Machine

/-! ## What the operations leave alone -/

/-- A conditional transfer keeps what the transfer keeps. -/
theorem State.ite_keeps {α : Type} (field : State → α) {c : Prop} [Decidable c] {s t : State} (h : field t = field s) :
    field (if c then t else s) = field s := by
  split
  · exact h
  · rfl

/-- The seven 8-bit registers (R21, R22). -/
def State.registers (s : State) : List Byte := [s.b, s.c, s.d, s.e, s.h, s.l, s.a]

/-- A register selector other than M reads one of the seven registers. -/
theorem State.reg8_congr {s t : State} {r : Reg8} (hr : r ≠ .m) (h : t.registers = s.registers) : t.reg8 r = s.reg8 r := by
  simp only [State.registers, List.cons.injEq] at h
  obtain ⟨hb, hc, hd, he, hh, hl, ha, -⟩ := h
  cases r with
  | m => exact absurd rfl hr
  | b | c | d | e | h | l | a => assumption

/-- Writing a pair changes its two halves alone (R23). -/
theorem State.reg8_setPair_of_notMem (s : State) {r : Reg8} {p : Pair} (v : Word) (hr : r ≠ .m) (h : r ∉ pairHalves p) :
    (s.setPair p v).reg8 r = s.reg8 r := by
  cases p with
  | sp => exact State.reg8_congr hr rfl
  | bc | de | hl =>
    simp only [pairHalves, List.mem_cons, List.not_mem_nil, or_false, not_or] at h
    exact (State.reg8_setReg8_ne _ (Word.lo v) hr h.2).trans (State.reg8_setReg8_ne s (Word.hi v) hr h.1)

/-- DAD changes no 8-bit register but H and L (R124). -/
theorem State.reg8_dadOp_of_notMem (s : State) {r : Reg8} (w : Word) (hr : r ≠ .m) (h : r ∉ pairHalves .hl) :
    (s.dadOp w).reg8 r = s.reg8 r := by
  have hpair := State.reg8_setPair_of_notMem s ((s.hl.setWidth 17 + w.setWidth 17).setWidth 16) hr h
  exact (State.reg8_congr hr rfl).trans hpair

/-- An ALU operation changes no 8-bit register but A. -/
theorem State.reg8_aluOp_ne (s : State) {r : Reg8} (o : AluOp) (v : Byte) (hr : r ≠ .m) (h : r ≠ .a) :
    (s.aluOp o v).reg8 r = s.reg8 r := by
  rw [State.aluOp_spec]
  exact (State.reg8_setReg8_ne _ _ hr h).trans (State.reg8_congr hr rfl)

/-- DAA changes no 8-bit register but A (R125). -/
theorem State.reg8_daaOp_ne (s : State) {r : Reg8} (hr : r ≠ .m) (h : r ≠ .a) : s.daaOp.reg8 r = s.reg8 r := by
  rw [State.daaOp_spec]
  exact (State.reg8_setReg8_ne _ _ hr h).trans (State.reg8_congr hr rfl)

/-- CMP changes no 8-bit register (R118). -/
theorem State.reg8_aluOp_cmp (s : State) {r : Reg8} (v : Byte) (hr : r ≠ .m) : (s.aluOp .cmp v).reg8 r = s.reg8 r :=
  State.reg8_congr hr rfl

/-- The flags other than fC, which R33's table lists together. -/
def Flags.withoutCarry (f : Flags) : Flags := { f with fC := false }

theorem Flags.withoutCarry_eq_iff {f g : Flags} :
    f.withoutCarry = g.withoutCarry ↔ f.fS = g.fS ∧ f.fZ = g.fZ ∧ f.fH = g.fH ∧ f.fP = g.fP := by
  simp [Flags.withoutCarry]

/-- INR and DCR write no flag but fS, fZ, fH and fP (R122, R123). -/
theorem incFlags_fC (f : Flags) (x : Byte) : (incFlags f x).fC = f.fC := rfl

theorem decFlags_fC (f : Flags) (x : Byte) : (decFlags f x).fC = f.fC := rfl

/-! ## What the forms leave alone -/

section Frame

variable {f : Form} (v : Byte) (w : Word) (s : State)

/-- The forms that R33's table does not list for fS, fZ, fH and fP write no flag but fC. -/
theorem flags_formEffect_withoutCarry (h : writesSZHP f = false) :
    (formEffect v w s f).flags.withoutCarry = s.flags.withoutCarry := by
  cases f with
  | alu | aluImm | inr | dcr | daa | popPSW => cases h
  | mov | mvi | lxi | inx | dcx | pop => simp [formEffect]
  | jcc | ccc | rcc => exact State.ite_keeps (·.flags.withoutCarry) rfl
  | _ => rfl

theorem fC_formEffect (h : writesC f = false) : (formEffect v w s f).flags.fC = s.flags.fC := by
  cases f with
  | alu | aluImm | dad | daa | rlc | rrc | ral | rar | stc | cmc | popPSW => cases h
  | mov | mvi | lxi | inx | dcx | pop => simp [formEffect]
  | inr | dcr => simp [formEffect, incFlags_fC, decFlags_fC]
  | jcc | ccc | rcc => exact State.ite_keeps (·.flags.fC) rfl
  | _ => rfl

theorem sp_formEffect (h : writesSP f = false) : (formEffect v w s f).sp = s.sp := by
  cases f with
  | sphl | push | pushPSW | pop | popPSW | call | ccc | rst | ret | rcc => cases h
  | lxi p | inx p | dcx p =>
    cases p with
    | sp => cases h
    | bc | de | hl => rfl
  | mov | mvi | inr | dcr | alu | aluImm => simp [formEffect]
  | jcc => exact State.ite_keeps State.sp rfl
  | _ => rfl

theorem pc_formEffect (h : writesPC f = false) : (formEffect v w s f).pc = s.pc := by
  cases f with
  | jmp | jcc | call | ccc | ret | rcc | rst | pchl | hlt => cases h
  | mov | mvi | inr | dcr | alu | aluImm | lxi | inx | dcx | pop => simp [formEffect]
  | _ => rfl

theorem iff_formEffect (h : writesIff f = false) : (formEffect v w s f).iff = s.iff := by
  cases f with
  | ei | di => cases h
  | mov | mvi | inr | dcr | alu | aluImm | lxi | inx | dcx | pop => simp [formEffect]
  | jcc | ccc | rcc => exact State.ite_keeps State.iff rfl
  | _ => rfl

theorem lastPC_formEffect : (formEffect v w s f).lastPC = s.lastPC := by
  cases f with
  | mov | mvi | inr | dcr | alu | aluImm | lxi | inx | dcx | pop => simp [formEffect]
  | jcc | ccc | rcc => exact State.ite_keeps State.lastPC rfl
  | _ => rfl

/-- Every 8-bit register that is no destination of the form keeps its value. -/
theorem reg8_formEffect {r : Reg8} (hr : r ≠ .m) (h : r ∉ destinations f) :
    (formEffect v w s f).reg8 r = s.reg8 r := by
  cases f with
  | mov dst src => exact (State.reg8_setReg8_ne _ _ hr (List.ne_of_not_mem_cons h)).trans (State.reg8_afterReg8 s src r)
  | mvi dst => exact State.reg8_setReg8_ne s v hr (List.ne_of_not_mem_cons h)
  | inr q | dcr q =>
    refine (State.reg8_setReg8_ne _ _ hr (List.ne_of_not_mem_cons h)).trans (State.reg8_congr hr ?_)
    simp [State.registers]
  | alu o src =>
    refine Eq.trans ?_ (State.reg8_afterReg8 s src r)
    cases o with
    | cmp => exact State.reg8_aluOp_cmp _ _ hr
    | _ => exact State.reg8_aluOp_ne _ _ _ hr (List.ne_of_not_mem_cons h)
  | aluImm o =>
    cases o with
    | cmp => exact State.reg8_aluOp_cmp _ _ hr
    | _ => exact State.reg8_aluOp_ne _ _ _ hr (List.ne_of_not_mem_cons h)
  | daa => exact State.reg8_daaOp_ne s hr (List.ne_of_not_mem_cons h)
  | lda | ldax | cma | rlc | rrc | ral | rar | inPort | popPSW =>
    exact (State.reg8_setReg8_ne _ _ hr (List.ne_of_not_mem_cons h)).trans (State.reg8_congr hr rfl)
  | lxi p | inx p | dcx p => exact State.reg8_setPair_of_notMem s _ hr h
  | pop p => exact (State.reg8_setPair_of_notMem _ _ hr h).trans (State.reg8_congr hr rfl)
  | dad p => exact State.reg8_dadOp_of_notMem s _ hr h
  | lhld | xthl => exact (State.reg8_setPair_of_notMem (p := .hl) _ _ hr h).trans (State.reg8_congr hr rfl)
  | xchg =>
    obtain ⟨hde, hhl⟩ : r ∉ pairHalves .de ∧ r ∉ pairHalves .hl := not_or.mp (mt List.mem_append.mpr h)
    exact (State.reg8_setPair_of_notMem _ _ hr hhl).trans (State.reg8_setPair_of_notMem s _ hr hde)
  | jcc | ccc | rcc => exact State.ite_keeps (State.reg8 · r) (State.reg8_congr hr rfl)
  | _ => exact State.reg8_congr hr rfl

end Frame

/-- Settles O17: a form outside R33's table keeps the flags by the two flag frames. -/
theorem flagsChangeOnlyWhereTheirWritersAreListed : Obligations.FlagsChangeOnlyWhereTheirWritersAreListed := by
  intro i s t hexec
  obtain rfl := eq_formEffect_of_exec hexec
  exact ⟨fun h => Flags.withoutCarry_eq_iff.mp (flags_formEffect_withoutCarry _ _ s h), fC_formEffect _ _ s⟩

/-- Settles O18: R35's lists, register by register. -/
theorem registersChangeOnlyWhereTheirWritersAreListed : Obligations.RegistersChangeOnlyWhereTheirWritersAreListed := by
  intro i s t hexec
  obtain rfl := eq_formEffect_of_exec hexec
  exact ⟨fun _ => reg8_formEffect _ _ s, sp_formEffect _ _ s, pc_formEffect _ _ s, iff_formEffect _ _ s,
    lastPC_formEffect _ _ s⟩

end Sys2Proof.Machine
end

section
/-! SUPPORT, O22, O25 and O55. Register pairs (spec/10_state.md R23), the packed flag byte (R27, R28) and the flags after reset (R37). -/

namespace Sys2Proof.Machine

/-- Settles O22: a pair is made of its halves, so the writes are the definitions and the values are those of `Word.ofBytes`. -/
theorem registerPairsAreViewsOfTheirHalves : Obligations.RegisterPairsAreViewsOfTheirHalves := by
  intro s v x
  simp only [← Word.hi_eq_extract, ← Word.lo_eq_extract]
  refine ⟨fun p => s.pair_setPair p v, rfl, rfl, rfl, rfl, ?values, ⟨rfl, rfl⟩, ⟨rfl, rfl⟩, ⟨rfl, rfl⟩, ?wraps⟩
  case values => exact ⟨Word.toNat_ofBytes s.b s.c, Word.toNat_ofBytes s.d s.e, Word.toNat_ofBytes s.h s.l⟩
  case wraps => exact ⟨BitVec.toNat_add v 1, by rw [BitVec.toNat_sub, Nat.add_comm]; rfl⟩

/-- The packed flag byte as a number: each flag at its bit, bit 1 set (R27); checked for the 32 values of the flags. -/
theorem toNat_packFlags (f : Flags) :
    (packFlags f).toNat = 128 * f.fS.toNat + 64 * f.fZ.toNat + 16 * f.fH.toNat + 4 * f.fP.toNat + 2 + f.fC.toNat := by
  obtain ⟨s, z, h, p, c⟩ := f
  cases s <;> cases z <;> cases h <;> cases p <;> cases c <;> rfl

/-- Unpacking gives the packed flags back (R28). -/
theorem unpackFlags_packFlags (f : Flags) : unpackFlags (packFlags f) = f := by
  obtain ⟨hS, hZ, hH, hP, hC⟩ := packFlags_bits f
  simp only [unpackFlags, hS, hZ, hH, hP, hC]

/-- Packing what was unpacked clears bits 5 and 3 and sets bit 1 (R27, R28), bit by bit. -/
theorem packFlags_unpackFlags (v : Byte) : packFlags (unpackFlags v) = (v &&& 0xD5) ||| 0x02 := by
  apply BitVec.eq_of_getLsbD_eq
  intro i hi
  interval_cases i <;> simp [packFlags, unpackFlags, flagBit]

/-- Settles O25: the layout as a number, and the two round trips. -/
theorem flagByteLayoutAndItsReserves : Obligations.FlagByteLayoutAndItsReserves :=
  ⟨fun f => ⟨toNat_packFlags f, unpackFlags_packFlags f⟩, fun v => ⟨rfl, packFlags_unpackFlags v⟩⟩

/-- The flags after reset pack to 02 (R37). -/
theorem packFlags_reset : packFlags Flags.reset = 0x02 := by
  decide

/-- Settles O55: reset writes the flags as constants; `State.reset` is a reset of itself with the default parameters. -/
theorem resetClearsTheFlags : Obligations.ResetClearsTheFlags :=
  ⟨fun _ _ _ => ⟨rfl, packFlags_reset⟩, Config.resetVector, Config.resetRegs, State.reset, rfl⟩

end Sys2Proof.Machine
end

section
/-! SUPPORT and O23. Words in memory, byte by byte (spec/20_memory.md R54-R56). -/

namespace Sys2Proof.Machine

/-- What every address reads as after a word is stored in a canonical memory. -/
theorem Memory.readByte_writeWord {m : Memory} (hm : Memory.wf m = true) (a x v : Word) :
    Memory.readByte (Memory.writeWord m a v) x =
      if x = a + 1 then Word.hi v else if x = a then Word.lo v else Memory.readByte m x := by
  unfold Memory.writeWord
  rw [Memory.readByte_writeByte (Memory.wf_writeByte hm a _), Memory.readByte_writeByte hm]

theorem Memory.readByte_writeWord_low {m : Memory} (hm : Memory.wf m = true) (a v : Word) :
    Memory.readByte (Memory.writeWord m a v) a = v.extractLsb' 0 8 := by
  rw [Memory.readByte_writeWord hm, if_neg (Word.ne_succ a), if_pos rfl, Word.lo_eq_extract]

theorem Memory.readByte_writeWord_high {m : Memory} (hm : Memory.wf m = true) (a v : Word) :
    Memory.readByte (Memory.writeWord m a v) (a + 1) = v.extractLsb' 8 8 := by
  rw [Memory.readByte_writeWord hm, if_pos rfl, Word.hi_eq_extract]

/-- Settles O23: `a` and `a + 1` differ even where `a + 1` wraps, so the two bytes of a word do not meet. -/
theorem wordAccessesAreLittleEndianAndWrap : Obligations.WordAccessesAreLittleEndianAndWrap := by
  intro m a v hm
  exact ⟨Word.toNat_ofBytes _ _, Memory.readByte_writeWord_low hm a v, Memory.readByte_writeWord_high hm a v,
    Memory.readWord_writeWord hm a v, fun _ => Memory.readByte_writeWord_ne m v⟩

end Sys2Proof.Machine
end

section
/-! SUPPORT. Transactions as what leads from one state to a later one (spec/20_memory.md R53, R62, R66): what memory and the record
are afterwards follows from the transactions alone. -/

namespace Sys2Proof.Machine

open Sys2Proof.Expected

/-! ## What transactions make of a memory -/

/-- The addresses of the bytes that transactions write. -/
def writtenAddresses (ts : List Transaction) : List Word := (ts.flatMap writtenBytes).map Prod.fst

theorem writtenAddresses_append (ts us : List Transaction) :
    writtenAddresses (ts ++ us) = writtenAddresses ts ++ writtenAddresses us := by
  simp [writtenAddresses]

theorem replay_append (m0 : Memory) (ts us : List Transaction) : replay m0 (ts ++ us) = replay (replay m0 us) ts := by
  induction ts with
  | nil => rfl
  | cons tr ts ih =>
    cases tr with
    | memWriteByte a v => exact congrArg (Memory.writeByte · a v) ih
    | memWriteWord a v => exact congrArg (Memory.writeWord · a v) ih
    | _ => exact ih

theorem readsLatest_append {m0 : Memory} {ts us : List Transaction} (hts : ReadsLatest (replay m0 us) ts)
    (hus : ReadsLatest m0 us) : ReadsLatest m0 (ts ++ us) := by
  induction ts with
  | nil => exact hus
  | cons tr ts ih =>
    cases tr with
    | memReadByte a v =>
      obtain ⟨hread, hts⟩ := hts
      exact ⟨hread.trans (congrArg (Memory.readByte · a) (replay_append m0 ts us).symm), ih hts⟩
    | memReadWord a v =>
      obtain ⟨hread, hts⟩ := hts
      exact ⟨hread.trans (congrArg (Memory.readWord · a) (replay_append m0 ts us).symm), ih hts⟩
    | _ => exact ih hts

theorem Memory.wf_replay {m : Memory} (hm : Memory.wf m = true) (ts : List Transaction) :
    Memory.wf (replay m ts) = true := by
  induction ts with
  | nil => exact hm
  | cons tr ts ih =>
    cases tr with
    | memWriteByte a v => exact Memory.wf_writeByte ih a v
    | memWriteWord a v => exact Memory.wf_writeWord ih a v
    | _ => exact ih

/-- The newest transaction leaves the bytes that it does not name. -/
theorem readByte_replay_cons_of_notMem {m : Memory} {tr : Transaction} {ts : List Transaction} {x : Word}
    (h : x ∉ (writtenBytes tr).map Prod.fst) :
    Memory.readByte (replay m (tr :: ts)) x = Memory.readByte (replay m ts) x := by
  cases tr with
  | memWriteByte a v => exact Memory.readByte_writeByte_ne _ v (List.ne_of_not_mem_cons h)
  | memWriteWord a v =>
    exact Memory.readByte_writeWord_ne _ v (List.ne_of_not_mem_cons h)
      (List.ne_of_not_mem_cons (List.not_mem_of_not_mem_cons h))
  | _ => rfl

/-- The bytes that the newest transaction writes read as written. -/
theorem readByte_replay_cons_of_mem {m : Memory} (hm : Memory.wf m = true) {tr : Transaction} {ts : List Transaction}
    {x : Word} {v : Byte} (h : (x, v) ∈ writtenBytes tr) : Memory.readByte (replay m (tr :: ts)) x = v := by
  have hwf := Memory.wf_replay hm ts
  cases tr with
  | memWriteByte a b =>
    obtain ⟨rfl, rfl⟩ : x = a ∧ v = b := by simpa [writtenBytes] using h
    exact (Memory.readByte_writeByte hwf x x v).trans (if_pos rfl)
  | memWriteWord a b =>
    obtain ⟨rfl, rfl⟩ | ⟨rfl, rfl⟩ : (x = a ∧ v = b.extractLsb' 0 8) ∨ (x = a + 1 ∧ v = b.extractLsb' 8 8) := by
      simpa [writtenBytes] using h
    · exact Memory.readByte_writeWord_low hwf x b
    · exact Memory.readByte_writeWord_high hwf a b
  | _ => cases h

theorem readByte_replay_of_notMem {m : Memory} {ts : List Transaction} {x : Word} (h : x ∉ writtenAddresses ts) :
    Memory.readByte (replay m ts) x = Memory.readByte m x := by
  induction ts with
  | nil => rfl
  | cons tr ts ih =>
    obtain ⟨hhead, htail⟩ : x ∉ (writtenBytes tr).map Prod.fst ∧ x ∉ writtenAddresses ts := by
      simpa [writtenAddresses, not_or] using h
    exact (readByte_replay_cons_of_notMem hhead).trans (ih htail)

/-- Where no byte is written twice, each of them reads as written. -/
theorem readByte_replay_of_mem {m : Memory} (hm : Memory.wf m = true) {ts : List Transaction}
    (hnodup : (writtenAddresses ts).Nodup) {x : Word} {v : Byte} (h : (x, v) ∈ ts.flatMap writtenBytes) :
    Memory.readByte (replay m ts) x = v := by
  induction ts with
  | nil => cases h
  | cons tr ts ih =>
    obtain ⟨-, htail, hdisjoint⟩ := List.nodup_append'.mp (writtenAddresses_append [tr] ts ▸ hnodup)
    rcases List.mem_append.mp (List.flatMap_cons ▸ h) with hnewest | holder
    · exact readByte_replay_cons_of_mem hm hnewest
    · have hx : x ∉ writtenAddresses [tr] := fun hx => hdisjoint hx (List.mem_map_of_mem holder)
      rw [readByte_replay_cons_of_notMem (by simpa [writtenAddresses] using hx)]
      exact ih htail holder

/-! ## From one state to a later one -/

/-- The transactions `ts`, newest first, lead from `s` to `t`: they are what the record has gained, memory is what they made of it,
and their reads returned the latest writes. -/
structure Transacts (s : State) (ts : List Transaction) (t : State) : Prop where
  trace : t.trace = ts ++ s.trace
  mem : t.mem = replay s.mem ts
  reads : ReadsLatest s.mem ts

section Transacts

variable {s t u : State} {ts us : List Transaction}

theorem Transacts.of_same (hm : t.mem = s.mem) (ht : t.trace = s.trace) : Transacts s [] t := ⟨ht, hm, trivial⟩

theorem Transacts.trans (h : Transacts s ts t) (h' : Transacts t us u) : Transacts s (us ++ ts) u where
  trace := by rw [h'.trace, h.trace, List.append_assoc]
  mem := by rw [h'.mem, h.mem, replay_append]
  reads := readsLatest_append (h.mem ▸ h'.reads) h.reads

/-- What is neither memory nor record is of no account. -/
theorem Transacts.congr_right (h : Transacts s ts t) (hm : u.mem = t.mem) (ht : u.trace = t.trace) : Transacts s ts u :=
  ⟨ht.trans h.trace, hm.trans h.mem, h.reads⟩

/-- A transfer that a condition decides issues its transactions or none. -/
theorem Transacts.ite (c : Prop) [Decidable c] (h : Transacts s ts t) :
    Transacts s (if c then ts else []) (if c then t else s) := by
  split
  · exact h
  · exact .of_same rfl rfl

theorem MemoryCanonical.of_transacts (hs : MemoryCanonical s) (h : Transacts s ts t) : MemoryCanonical t := by
  unfold MemoryCanonical
  rw [h.mem]
  exact Memory.wf_replay hs ts

theorem Coherent.of_transacts {m0 : Memory} (hs : Coherent m0 s) (h : Transacts s ts t) : Coherent m0 t := by
  obtain ⟨hmem, hreads⟩ := hs
  refine ⟨?_, ?_⟩
  · rw [h.mem, h.trace, replay_append, ← hmem]
  · rw [h.trace]
    exact readsLatest_append (hmem ▸ h.reads) hreads

theorem Transacts.byteAt_of_notMem (h : Transacts s ts t) {x : Word} (hx : x ∉ writtenAddresses ts) :
    t.byteAt x = s.byteAt x := by
  unfold State.byteAt
  rw [h.mem]
  exact readByte_replay_of_notMem hx

theorem Transacts.byteAt_of_mem (h : Transacts s ts t) (hs : MemoryCanonical s) (hnodup : (writtenAddresses ts).Nodup)
    {x : Word} {v : Byte} (hx : (x, v) ∈ ts.flatMap writtenBytes) : t.byteAt x = v := by
  unfold State.byteAt
  rw [h.mem]
  exact readByte_replay_of_mem hs hnodup hx

end Transacts

/-! ## The transactions of the fetch and of the operand selectors -/

theorem Transacts.fetched (s : State) (n : Nat) : Transacts s (s.fetchReads n) (s.fetched n) := by
  match n with
  | 0 => exact ⟨rfl, rfl, trivial⟩
  | 1 => exact ⟨rfl, rfl, rfl, trivial⟩
  | 2 | _ + 3 => exact ⟨rfl, rfl, rfl, rfl, trivial⟩

/-- The write that storing `v` through the selector `r` issues: one byte write at `a`, the address in HL, for M, none for a register
(R30). -/
def operandWrites (a : Word) (r : Reg8) (v : Byte) : List Transaction :=
  if r = .m then [.memWriteByte a v] else []

theorem Transacts.afterReg8 (s : State) (r : Reg8) : Transacts s (operandReads s r) (s.afterReg8 r) := by
  cases r with
  | m => exact ⟨rfl, rfl, rfl, trivial⟩
  | _ => exact .of_same rfl rfl

theorem Transacts.setReg8 {s : State} {a : Word} (ha : s.hl = a) (r : Reg8) (v : Byte) :
    Transacts s (operandWrites a r v) (s.setReg8 r v) := by
  subst ha
  cases r with
  | m => exact ⟨rfl, rfl, trivial⟩
  | _ => exact .of_same rfl rfl

theorem Transacts.setPair (s : State) (p : Pair) (w : Word) : Transacts s [] (s.setPair p w) :=
  .of_same (State.setPair_mem s w p) (State.setPair_trace s w p)

theorem Transacts.pop (s : State) : Transacts s [.memReadWord s.sp (s.wordAt s.sp)] s.pop.2 := ⟨rfl, rfl, rfl, trivial⟩

theorem Transacts.aluOp (s : State) (o : AluOp) (v : Byte) : Transacts s [] (s.aluOp o v) :=
  .of_same (State.aluOp_mem s v o) (State.aluOp_trace s v o)

theorem writtenAddresses_operandReads (s : State) (r : Reg8) : writtenAddresses (operandReads s r) = [] := by
  cases r <;> rfl

theorem length_operandReads_le (s : State) (r : Reg8) : (operandReads s r).length ≤ 1 := by
  unfold operandReads
  split <;> simp

theorem length_operandWrites_le (a : Word) (r : Reg8) (v : Byte) : (operandWrites a r v).length ≤ 1 := by
  unfold operandWrites
  split <;> simp

end Sys2Proof.Machine
end

section
/-! SUPPORT, O14, O15, O12, O19 and O13. The data transactions of each instruction (spec/20_memory.md R60, R61), said once; that a step
is its fetch reads and then these; and what follows for memory and the record. -/

namespace Sys2Proof.Machine

open Sys2Proof.Expected

/-! ## The data transactions of an instruction -/

/-- The data transactions, newest first, of an instruction of the form that runs in `s` with operand byte `v` and operand word `w`,
whichever of them it has. -/
def formTransactions (v : Byte) (w : Word) (s : State) : Form → List Transaction
  | .mov dst src => operandWrites s.hl dst (s.reg8 src) ++ operandReads s src
  | .mvi dst => operandWrites s.hl dst v
  | .inr r => operandWrites s.hl r (Word.lo (wideAdd (s.reg8 r) 1 false)) ++ operandReads s r
  | .dcr r => operandWrites s.hl r (Word.lo (wideSub (s.reg8 r) 1 false)) ++ operandReads s r
  | .alu _ src => operandReads s src
  | .lda => [.memReadByte w (s.byteAt w)]
  | .ldax p => [.memReadByte (s.pair p) (s.byteAt (s.pair p))]
  | .lhld => [.memReadWord w (s.wordAt w)]
  | .sta => [.memWriteByte w s.a]
  | .stax p => [.memWriteByte (s.pair p) s.a]
  | .shld => [.memWriteWord w s.hl]
  | .xthl => [.memWriteWord s.sp s.hl, .memReadWord s.sp (s.wordAt s.sp)]
  | .push p => [.memWriteWord (s.sp - 2) (s.pair p)]
  | .pushPSW => [.memWriteWord (s.sp - 2) (Word.ofBytes s.a (packFlags s.flags))]
  | .call | .rst _ => [.memWriteWord (s.sp - 2) s.pc]
  | .ccc cond => if condHolds cond s.flags then [.memWriteWord (s.sp - 2) s.pc] else []
  | .pop _ | .popPSW | .ret => [.memReadWord s.sp (s.wordAt s.sp)]
  | .rcc cond => if condHolds cond s.flags then [.memReadWord s.sp (s.wordAt s.sp)] else []
  | .inPort => [.portIn v (s.portValue v)]
  | .outPort => [.portOut v s.a]
  | .ei => [.notifyIff true]
  | .di => [.notifyIff false]
  | _ => []

/-- The addresses of `storedAt` by the form and the operand word. -/
def formStoredAt (w : Word) (s : State) : Form → List Word
  | .sta => [w]
  | .shld => wordBytes w
  | f => formStores s f

theorem storedAt_eq_formStoredAt (i : Instr) (s : State) : storedAt i s = formStoredAt i.operandWord s i.form := by
  cases i <;> rfl

section Form

variable (v : Byte) (w : Word) (s : State) (f : Form)

theorem transacts_formEffect : Transacts s (formTransactions v w s f) (formEffect v w s f) := by
  cases f with
  | mov dst src => exact (Transacts.afterReg8 s src).trans (.setReg8 (State.hl_afterReg8 s src) dst _)
  | mvi dst => exact .setReg8 rfl dst v
  | inr r | dcr r =>
    refine Transacts.trans ?_ (.setReg8 ?_ r _)
    · exact (Transacts.afterReg8 s r).congr_right rfl rfl
    · exact State.hl_afterReg8 s r
  | alu o src => exact (Transacts.afterReg8 s src).trans (.aluOp _ o _)
  | aluImm o => exact .aluOp s o v
  | lxi p | inx p | dcx p => exact .setPair s p _
  | pop p => exact (Transacts.pop s).trans (.setPair _ p _)
  | lda | ldax | lhld | xthl | popPSW | ret => exact ⟨rfl, rfl, rfl, trivial⟩
  | sta | stax | shld | push | pushPSW | call | rst | inPort | outPort | ei | di => exact ⟨rfl, rfl, trivial⟩
  | jcc => exact .of_same (State.ite_keeps State.mem rfl) (State.ite_keeps State.trace rfl)
  | ccc => exact Transacts.ite _ ⟨rfl, rfl, trivial⟩
  | rcc => exact Transacts.ite _ ⟨rfl, rfl, rfl, trivial⟩
  | _ => exact .of_same rfl rfl

theorem length_formTransactions_le : (formTransactions v w s f).length ≤ 2 := by
  cases f with
  | mov _ r | inr r | dcr r =>
    rw [formTransactions, List.length_append]
    exact Nat.add_le_add (length_operandWrites_le ..) (length_operandReads_le s r)
  | mvi dst => exact (length_operandWrites_le ..).trans one_le_two
  | alu _ src => exact (length_operandReads_le s src).trans one_le_two
  | ccc | rcc =>
    rw [formTransactions]
    split <;> simp
  | _ => simp [formTransactions]

/-- The write transactions name the bytes that the form stores to, no others. -/
theorem writtenAddresses_formTransactions : writtenAddresses (formTransactions v w s f) = formStoredAt w s f := by
  cases f with
  | mov dst r | inr dst | dcr dst =>
    rw [formTransactions, writtenAddresses_append, writtenAddresses_operandReads, List.append_nil]
    cases dst <;> rfl
  | mvi dst => cases dst <;> rfl
  | alu _ src => exact writtenAddresses_operandReads s src
  | ccc | rcc =>
    simp only [formTransactions, formStoredAt, formStores]
    split <;> rfl
  | _ => rfl

theorem nodup_wordBytes (a : Word) : (wordBytes a).Nodup := by
  simp [wordBytes]

/-- No form stores to one byte twice. -/
theorem nodup_formStoredAt : (formStoredAt w s f).Nodup := by
  cases f with
  | mov dst | mvi dst | inr dst | dcr dst =>
    cases dst with
    | m => exact List.nodup_singleton _
    | _ => exact List.nodup_nil
  | sta | stax => exact List.nodup_singleton _
  | shld | xthl | push | pushPSW | call | rst => exact nodup_wordBytes _
  | ccc =>
    simp only [formStoredAt, formStores]
    split
    · exact nodup_wordBytes _
    · exact List.nodup_nil
  | _ => exact List.nodup_nil

end Form

/-- The data transactions, newest first, of an instruction that runs in `s`. -/
def dataTransactions (i : Instr) (s : State) : List Transaction :=
  formTransactions i.operandByte i.operandWord s i.form

section Exec

variable (i : Instr) (s : State)

theorem transacts_exec {t : State} (h : exec i s = .next t) : Transacts s (dataTransactions i s) t := by
  obtain rfl := eq_formEffect_of_exec h
  exact transacts_formEffect ..

theorem writtenAddresses_dataTransactions : writtenAddresses (dataTransactions i s) = storedAt i s :=
  (writtenAddresses_formTransactions ..).trans (storedAt_eq_formStoredAt i s).symm

theorem nodup_storedAt : (storedAt i s).Nodup :=
  storedAt_eq_formStoredAt i s ▸ nodup_formStoredAt ..

end Exec

/-! ## The transactions of a step -/

/-- The step of the instruction that the decoder reads at PC. -/
theorem stepWith_of_decode {s : State} {i : Instr} {rest : List Byte} (hd : decode s.fetchWindow = .ok (i, rest))
    (T : CycleTable) :
    stepWith T s = returnCycles (T (s.byteAt s.pc) (conditionTaken i s.flags)) (exec i (s.fetched i.length)) := by
  obtain ⟨j, _, hd', -, -, hs⟩ := stepWith_spec T s
  obtain ⟨rfl, -⟩ := Prod.mk.inj (Except.ok.inj (hd.symm.trans hd'))
  exact hs

/-- After the fetch come the instruction's data transactions. -/
theorem transacts_step_of_decode {s t : State} {i : Instr} {rest : List Byte}
    (hd : decode s.fetchWindow = .ok (i, rest)) (h : step s = .next t) :
    Transacts (s.fetched i.length) (dataTransactions i (s.fetched i.length)) t := by
  obtain ⟨u, hexec, rfl⟩ := returnCycles_next ((stepWith_of_decode hd cycleTable).symm.trans h)
  exact (transacts_exec i _ hexec).congr_right rfl rfl

theorem transacts_step {s t : State} (h : step s = .next t) : ∃ ts, Transacts s ts t := by
  obtain ⟨i, _, _, hd, -, -⟩ := stepWith_next h
  exact ⟨_, (Transacts.fetched s i.length).trans (transacts_step_of_decode hd h)⟩

/-- The instruction at PC has at least its opcode byte. -/
theorem length_pos_of_decode {s : State} {i : Instr} {rest : List Byte} (hd : decode s.fetchWindow = .ok (i, rest)) :
    0 < i.length := by
  obtain ⟨j, _, hd', hhead, -, -⟩ := stepWith_spec cycleTable s
  obtain ⟨rfl, -⟩ := Prod.mk.inj (Except.ok.inj (hd.symm.trans hd'))
  exact List.length_pos_of_mem (List.mem_of_mem_head? hhead)

/-- The oldest fetch read is that of the opcode byte. -/
theorem State.getLast?_fetchReads (s : State) {n : Nat} (hn : 0 < n) :
    (s.fetchReads n).getLast? = some (.memReadByte s.pc (s.byteAt s.pc)) := by
  unfold State.fetchReads
  split
  · cases hn
  all_goals rfl

/-- Settles O14: memory after the step is what its transactions made of a canonical memory. -/
theorem stepKeepsMemoryCanonical : Obligations.StepKeepsMemoryCanonical := by
  intro s t hs h
  obtain ⟨ts, hts⟩ := transacts_step h
  exact hs.of_transacts hts

/-- Settles O15: the record after the step is its transactions on the record before, and they account for memory from there on. -/
theorem stepKeepsReadsTheLatestWrites : Obligations.StepKeepsReadsTheLatestWrites := by
  intro m0 s t hs h
  obtain ⟨ts, hts⟩ := transacts_step h
  exact hs.of_transacts hts

/-- Settles O12: the data transactions stand on the fetch reads, and these on the record before. -/
theorem stepsOnlyAddToTheRecordStartingWithTheOpcodeFetch :
    Obligations.StepsOnlyAddToTheRecordStartingWithTheOpcodeFetch := by
  intro s t i rest hd h
  exact ⟨dataTransactions i (s.fetched i.length), (transacts_step_of_decode hd h).trace,
    s.getLast?_fetchReads (length_pos_of_decode hd), length_formTransactions_le ..⟩

/-- Settles O19: a byte that no write transaction of the instruction names reads as before. -/
theorem memoryChangesOnlyAtTheStoredBytes : Obligations.MemoryChangesOnlyAtTheStoredBytes := by
  intro i s t x h hx
  exact (transacts_exec i s h).byteAt_of_notMem (writtenAddresses_dataTransactions i s ▸ hx)

/-- Settles O13: nothing is listed and nothing is on record. -/
theorem resetMeetsTheInvariants : Obligations.ResetMeetsTheInvariants :=
  ⟨MemoryCanonical.reset, ⟨rfl, trivial⟩, rfl⟩

end Sys2Proof.Machine
end

section
/-! SUPPORT. The decoder undoes the encoder, and reads the bytes that the encoder gives (spec/30_encoding.md R96, R97). -/

namespace Sys2Proof

theorem decode_encodeWord {op : Byte} {mk : Word → Instr} (h : dispatch op = some (.f3 mk)) (v : Word) (rest : List Byte) :
    decode (encodeWord op v ++ rest) = .ok (mk v, rest) := by
  rw [encodeWord, List.cons_append, List.cons_append, List.singleton_append, decode_f3 h, Word.ofBytes_hi_lo]

/-- Decoding an instruction's bytes gives it back and leaves the bytes after it. -/
theorem decode_encode_append (i : Instr) (rest : List Byte) : decode (encode i ++ rest) = .ok (i, rest) := by
  cases i with
  | lxiB v | lxiD v | lxiH v | lxiSP v | shld v | lhld v | sta v | lda v | jmp v | jmpCB v | call v | callDD v | callED v
  | callFD v | jnz v | jz v | jnc v | jc v | jpo v | jpe v | jp v | jm v | cnz v | cz v | cnc v | cc v | cpo v | cpe v | cp v
  | cm v =>
    exact decode_encodeWord rfl v rest
  | _ => rfl

/-- The bytes that the decoder read are the instruction's. -/
theorem encode_append_of_decode {bytes rest : List Byte} {i : Instr} (h : decode bytes = .ok (i, rest)) :
    encode i ++ rest = bytes := by
  cases bytes with
  | nil => simp [decode] at h
  | cons op more =>
    obtain ⟨t, ht, hsel⟩ := dispatch_spec op
    cases t with
    | f1 j =>
      rw [decode_f1 ht] at h
      cases h
      rw [hsel.1, List.singleton_append]
    | f2 mk =>
      match more with
      | [] => simp [decode, ht] at h
      | v :: more =>
        rw [decode_f2 ht] at h
        cases h
        rw [(hsel.1 v).1, List.cons_append, List.singleton_append]
    | f3 mk =>
      match more with
      | [] | [_] => simp [decode, ht] at h
      | lo :: hi :: more =>
        rw [decode_f3 ht] at h
        cases h
        rw [(hsel.1 _).1, encodeWord, Word.lo_ofBytes, Word.hi_ofBytes, List.cons_append, List.cons_append,
          List.singleton_append]

end Sys2Proof
end

section
/-! SUPPORT and O59. Stored code (spec/20_memory.md R69, R70): what a step stores, and what a fetch then reads. -/

namespace Sys2Proof.Machine

open Sys2Proof.Expected

/-- From any PC the next step runs the instruction that the bytes there encode. -/
theorem step_at_runs_encoded (t : State) (p : Word) :
    ∃ j more, encode j ++ more = [t.byteAt p, t.byteAt (p + 1), t.byteAt (p + 2)] ∧
      ∃ k, step { t with pc := p } = returnCycles k (exec j (State.fetched { t with pc := p } j.length)) := by
  obtain ⟨j, more, hd, -, -, hs⟩ := stepWith_spec cycleTable { t with pc := p }
  exact ⟨j, more, encode_append_of_decode hd, _, hs⟩

/-- A one-byte instruction that stands at PC is what the next step runs. -/
theorem step_of_byteAt_pc {t : State} {i : Instr} (h : encode i = [t.byteAt t.pc]) :
    ∃ k, step t = returnCycles k (exec i (t.fetched 1)) := by
  have hd : decode t.fetchWindow = .ok (i, [t.byteAt (t.pc + 1), t.byteAt (t.pc + 2)]) := by
    rw [← decode_encode_append, h]
    rfl
  have hlen : i.length = 1 := congrArg List.length h
  exact ⟨_, hlen ▸ stepWith_of_decode hd cycleTable⟩

/-- A step of STA stores A and goes on past the instruction. -/
theorem step_sta {s t : State} {a : Word} {rest : List Byte} (hs : MemoryCanonical s)
    (hd : decode s.fetchWindow = .ok (.sta a, rest)) (h : step s = .next t) : t.pc = s.pc + 3 ∧ t.byteAt a = s.a := by
  obtain ⟨u, hexec, rfl⟩ := returnCycles_next ((stepWith_of_decode hd cycleTable).symm.trans h)
  obtain rfl := eq_formEffect_of_exec hexec
  exact ⟨rfl, (State.byteAt_memWriteByte (s := s.fetched 3) hs a a s.a).trans (if_pos rfl)⟩

/-- Settles O59: the step's data transactions name the stored bytes, each of them once; the fetch then reads memory as they left it. -/
theorem storedCodeIsWhatTheNextFetchExecutes : Obligations.StoredCodeIsWhatTheNextFetchExecutes := by
  refine ⟨?anyStore, ?sta⟩
  case anyStore =>
    intro s t i rest data hs hd h hdata
    have hts := transacts_step_of_decode hd h
    obtain rfl : data = dataTransactions i (s.fetched i.length) := List.append_cancel_right (hdata.symm.trans hts.trace)
    have hstored := writtenAddresses_dataTransactions i (s.fetched i.length)
    have hfetched : MemoryCanonical (s.fetched i.length) := hs.of_mem rfl
    refine ⟨hstored, fun x v => ?_, fun x hx => ?_, step_at_runs_encoded t⟩
    · exact hts.byteAt_of_mem hfetched (hstored ▸ nodup_storedAt ..)
    · exact hts.byteAt_of_notMem (hstored ▸ hx)
  case sta =>
    intro s t u i hs hd hi h h'
    obtain ⟨hpc, hbyte⟩ := step_sta hs hd h
    obtain ⟨k, hk⟩ := step_of_byteAt_pc (t := t) (hpc ▸ hbyte ▸ hi)
    exact ⟨k, h'.symm.trans hk, hpc⟩

end Sys2Proof.Machine
end

section
/-! SUPPORT, O1 to O4, O6 and O7. Bytes and instructions (spec/30_encoding.md R80-R100): what the decoder reads, how the opcode
byte decides the length, how the four stages share the bytes out, and the patterns of bits. -/

namespace Sys2Proof

/-- Settles O1: instruction by instruction, the opcode's template is the instruction's constructor. -/
theorem decodeOfEncodeGivesTheInstruction : Obligations.DecodeOfEncodeGivesTheInstruction :=
  decode_encode_append

/-- Settles O2: every opcode byte selects a template whose instructions are encoded by that byte and the operand read. -/
theorem encodeOfDecodeGivesTheBytes : Obligations.EncodeOfDecodeGivesTheBytes :=
  fun _ _ _ h => (encode_append_of_decode h).symm

/-! ## The stages -/

/-- Three bytes are enough for the operand of any opcode. -/
theorem exists_decode_three_bytes (op x y : Byte) : ∃ i rest, decode [op, x, y] = .ok (i, rest) := by
  obtain ⟨t, ht, -⟩ := dispatch_spec op
  cases t with
  | f1 i => exact ⟨_, _, decode_f1 ht _⟩
  | f2 mk => exact ⟨_, _, decode_f2 ht _ _⟩
  | f3 mk => exact ⟨_, _, decode_f3 ht _ _ _⟩

/-- Settles O3: every byte has a template; the first matches are counted over the 256 bytes. -/
theorem everyOpcodeByteIsAssignedByOneStage : Obligations.EveryOpcodeByteIsAssignedByOneStage := by
  refine ⟨fun op => ?assigned, ?stage1, ?stage2, ?stage3, ?stage4, exists_decode_three_bytes⟩
  case assigned =>
    obtain ⟨t, ht, -⟩ := dispatch_spec op
    exact Option.isSome_of_eq_some ht
  case stage1 | stage2 | stage3 | stage4 => decide +kernel

/-! ## The length -/

/-- An instruction's bytes are one whole instruction (R80, R82). -/
theorem wellFormedBytes_encode (i : Instr) : wellFormedBytes (encode i) = true := by
  cases i <;> rfl

/-- The first byte of an instruction's bytes decides how many they are. -/
theorem length_eq_opcodeLength {i : Instr} {op : Byte} {operand : List Byte} (h : encode i = op :: operand) :
    i.length = opcodeLength op := by
  have hwf := wellFormedBytes_encode i
  rw [h, wellFormedBytes, beq_iff_eq] at hwf
  rw [Instr.length, h, List.length_cons, hwf]

theorem opcodeLength_bounds (op : Byte) : 1 ≤ opcodeLength op ∧ opcodeLength op ≤ 3 := by
  unfold opcodeLength
  split_ifs <;> decide

theorem exists_encode_eq_cons (i : Instr) : ∃ op operand, encode i = op :: operand :=
  List.exists_cons_of_ne_nil fun h => by simpa [h, wellFormedBytes] using wellFormedBytes_encode i

/-- Settles O4: the bytes read are the instruction's, and these are as many as their first byte says. -/
theorem opcodeByteAloneDecidesTheLength : Obligations.OpcodeByteAloneDecidesTheLength := by
  refine ⟨fun i => ?encoder, fun op more rest i h => ?decoder⟩
  case encoder =>
    obtain ⟨op, operand, hi⟩ := exists_encode_eq_cons i
    have hlen := length_eq_opcodeLength hi
    exact ⟨op, operand, hi, hlen, hlen ▸ opcodeLength_bounds op⟩
  case decoder =>
    obtain ⟨op', operand, hi⟩ := exists_encode_eq_cons i
    have hbytes := encode_append_of_decode h
    obtain rfl : op' = op := by
      rw [hi] at hbytes
      exact (List.cons.inj hbytes).1
    rw [← length_eq_opcodeLength hi, ← hbytes, List.length_append, Instr.length]

/-! ## Words and patterns of bits -/

/-- Settles O6: each word is its instruction's bytes. -/
theorem sampleWordsDecode : Obligations.SampleWordsDecode :=
  ⟨decode_encode_append .nop [], decode_encode_append .movBC [], decode_encode_append .hlt [],
    decode_encode_append (.mviA 0x42) [], decode_encode_append (.lxiH 0x1234) [], decode_encode_append .sbbL [],
    decode_encode_append (.cpi 0x40) [], decode_encode_append .pushPSW [], decode_encode_append (.jpe 0x2000) [],
    decode_encode_append .rst7 [], decode_encode_append (.inPort 0x10) [], decode_encode_append (.shld 0x3000) []⟩

/-- An operand word follows its opcode low byte first (R82). -/
theorem encodeWord_eq (op : Byte) (v : Word) : encodeWord op v = [op, v.extractLsb' 0 8, v.extractLsb' 8 8] := by
  rw [encodeWord, Word.lo_eq_extract, Word.hi_eq_extract]

theorem encode_mov {dst r : Reg8} {i : Instr} (h : Instr.mov dst r = some i) :
    encode i = [(0b01#2 ++ dst.bits ++ r.bits : BitVec 8)] := by
  cases dst <;> cases r <;> cases h <;> rfl

theorem encode_alu (o : AluOp) (r : Reg8) : encode (Instr.alu o r) = [(0b10#2 ++ o.bits ++ r.bits : BitVec 8)] := by
  cases o <;> cases r <;> rfl

theorem encode_aluImm (o : AluOp) (v : Byte) :
    encode (Instr.aluImm o v) = [(0b11#2 ++ o.bits ++ 0b110#3 : BitVec 8), v] := by
  cases o <;> rfl

theorem encode_mvi (r : Reg8) (v : Byte) : encode (Instr.mvi r v) = [(0b00#2 ++ r.bits ++ 0b110#3 : BitVec 8), v] := by
  cases r <;> rfl

theorem encode_inr (r : Reg8) : encode (Instr.inr r) = [(0b00#2 ++ r.bits ++ 0b100#3 : BitVec 8)] := by
  cases r <;> rfl

theorem encode_dcr (r : Reg8) : encode (Instr.dcr r) = [(0b00#2 ++ r.bits ++ 0b101#3 : BitVec 8)] := by
  cases r <;> rfl

theorem encode_jcc (cc : Cond) (a : Word) : encode (Instr.jcc cc a) = encodeWord (0b11#2 ++ cc.bits ++ 0b010#3) a := by
  cases cc <;> rfl

theorem encode_ccc (cc : Cond) (a : Word) : encode (Instr.ccc cc a) = encodeWord (0b11#2 ++ cc.bits ++ 0b100#3) a := by
  cases cc <;> rfl

theorem encode_rcc (cc : Cond) : encode (Instr.rcc cc) = [(0b11#2 ++ cc.bits ++ 0b000#3 : BitVec 8)] := by
  cases cc <;> rfl

theorem encode_rst (n : BitVec 3) : encode (Instr.rst n) = [(0b11#2 ++ n ++ 0b111#3 : BitVec 8)] := by
  revert n
  decide

theorem encode_lxi (p : Pair) (v : Word) : encode (Instr.lxi p v) = encodeWord (0b00#2 ++ p.bits ++ 0b0001#4) v := by
  cases p <;> rfl

theorem encode_inx (p : Pair) : encode (Instr.inx p) = [(0b00#2 ++ p.bits ++ 0b0011#4 : BitVec 8)] := by
  cases p <;> rfl

theorem encode_dad (p : Pair) : encode (Instr.dad p) = [(0b00#2 ++ p.bits ++ 0b1001#4 : BitVec 8)] := by
  cases p <;> rfl

theorem encode_dcx (p : Pair) : encode (Instr.dcx p) = [(0b00#2 ++ p.bits ++ 0b1011#4 : BitVec 8)] := by
  cases p <;> rfl

theorem encode_stax {p : Pair} {i : Instr} (h : Instr.stax p = some i) :
    encode i = [(0b00#2 ++ p.bits ++ 0b0010#4 : BitVec 8)] := by
  cases p <;> cases h <;> rfl

theorem encode_ldax {p : Pair} {i : Instr} (h : Instr.ldax p = some i) :
    encode i = [(0b00#2 ++ p.bits ++ 0b1010#4 : BitVec 8)] := by
  cases p <;> cases h <;> rfl

theorem encode_pop {p : Pair} {i : Instr} (h : Instr.pop p = some i) :
    encode i = [(0b11#2 ++ p.bits ++ 0b0001#4 : BitVec 8)] := by
  cases p <;> cases h <;> rfl

theorem encode_push {p : Pair} {i : Instr} (h : Instr.push p = some i) :
    encode i = [(0b11#2 ++ p.bits ++ 0b0101#4 : BitVec 8)] := by
  cases p <;> cases h <;> rfl

/-- Settles O7: family by family; the bytes that R92 lists on their own, row by row. -/
theorem encodingsFollowTheOpcodePatterns : Obligations.EncodingsFollowTheOpcodePatterns := by
  refine ⟨fun _ _ _ => encode_mov, encode_alu, encode_aluImm, encode_mvi, fun r => ⟨encode_inr r, encode_dcr r⟩,
    fun cc a => ⟨(encode_jcc cc a).trans (encodeWord_eq _ a), (encode_ccc cc a).trans (encodeWord_eq _ a), encode_rcc cc⟩,
    encode_rst, fun p v => ⟨(encode_lxi p v).trans (encodeWord_eq _ v), encode_inx p, encode_dad p, encode_dcx p⟩,
    fun _ _ => ⟨encode_stax, encode_ldax, encode_pop, encode_push⟩, ?oneByte, fun _ => ⟨rfl, rfl⟩, ?oneWord⟩
  case oneByte => decide
  case oneWord =>
    intro a q hq
    rw [← encodeWord_eq]
    fin_cases hq <;> rfl

end Sys2Proof
end

section
/-! SUPPORT, O5 and O8. Steps (spec/30_encoding.md R90, R98): a step runs what the decoder reads at PC, and an instruction's meaning
and count are those of its form. -/

namespace Sys2Proof.Machine

/-- The instruction's own opcode byte selects its form. -/
theorem dispatch_opcode_form {i : Instr} {op : Byte} {operand : List Byte} (h : encode i = op :: operand) :
    (dispatch op).map Template.form = some i.form := by
  cases i <;> cases h <;> rfl

/-- The count of an instruction's opcode byte is that of its form (R352). -/
theorem cycleTable_opcode {i : Instr} {op : Byte} {operand : List Byte} (h : encode i = op :: operand) (taken : Bool) :
    cycleTable op taken = formCycles taken i.form := by
  obtain ⟨t, ht, hform⟩ := Option.map_eq_some_iff.mp (dispatch_opcode_form h)
  rw [cycleTable, ht, ← hform]

/-- Instructions of one form and one operand have one meaning. -/
theorem exec_congr {i j : Instr} (hform : i.form = j.form) (hbyte : i.operandByte = j.operandByte)
    (hword : i.operandWord = j.operandWord) (s : State) : exec i s = exec j s := by
  rw [exec_eq_formEffect, exec_eq_formEffect, hform, hbyte, hword]

/-- An instruction of another one's form and operand stands for it: same meaning, same count (R98). -/
theorem executes_as_of_form_eq {i j : Instr} {op op' : Byte} {operand operand' : List Byte} (s : State) (taken : Bool)
    (hi : encode i = op :: operand) (hj : encode j = op' :: operand') (hform : i.form = j.form)
    (hbyte : i.operandByte = j.operandByte) (hword : i.operandWord = j.operandWord) :
    encode i = op :: operand ∧ exec i s = exec j s ∧ cycleTable op taken = cycleTable op' taken :=
  ⟨hi, exec_congr hform hbyte hword s, by rw [cycleTable_opcode hi, cycleTable_opcode hj, hform]⟩

/-- Settles O5: each of the twelve has the form and the operand of the instruction it stands for. -/
theorem undocumentedBytesExecuteAsTheirInstructions : Obligations.UndocumentedBytesExecuteAsTheirInstructions := by
  intro s a taken
  refine ⟨?nops, ?jmp, ?ret, ?calls⟩
  case jmp | ret => exact executes_as_of_form_eq s taken rfl rfl rfl rfl rfl
  case nops | calls =>
    intro p hp
    fin_cases hp <;> exact executes_as_of_form_eq s taken rfl rfl rfl rfl rfl

/-- Settles O8: the fetch reads what the decoder reads at PC, and the state after it is `fetched`. -/
theorem stepRunsTheDecodedInstruction : Obligations.StepRunsTheDecodedInstruction :=
  fun T _ _ _ hd => ⟨stepWith_of_decode hd T, stepWith_of_decode hd cycleTable⟩

end Sys2Proof.Machine
end

section
/-! SUPPORT, O21 and O47. The operand selectors (spec/30_encoding.md R85) and the conditions (R87). -/

namespace Sys2Proof.Machine

/-- Reading a register leaves the state alone; only M is read by a transaction (R30). -/
theorem State.afterReg8_of_ne_m (s : State) {r : Reg8} (h : r ≠ .m) : s.afterReg8 r = s := by
  cases r with
  | m => exact absurd rfl h
  | b | c | d | e | h | l | a => rfl

/-- Settles O21: HL is H and L put together, so every other clause is its selector's case of the definition. -/
theorem registerSelectorsNameTheRegistersAndM : Obligations.RegisterSelectorsNameTheRegistersAndM :=
  ⟨rfl, fun s _ => ⟨rfl, fun _ => s.afterReg8_of_ne_m, rfl, rfl, rfl, rfl, rfl, rfl, rfl, rfl, rfl⟩⟩

/-- Settles O47: the flags stay variables, so both lists are computed selector by selector. -/
theorem conditionsTestTheirFlags : Obligations.ConditionsTestTheirFlags :=
  ⟨rfl, fun _ => rfl⟩

end Sys2Proof.Machine
end

section
/-! SUPPORT, O24 and O26. Parity (spec/40_alu_ops.md R110) and the half-carry of both tables (R112-R115). -/

namespace Sys2Proof.Machine

/-- The count of set bits, bit by bit. -/
theorem popcount_eq_sum (v : Byte) :
    popcount v =
      v[0].toNat + v[1].toNat + v[2].toNat + v[3].toNat + v[4].toNat + v[5].toNat + v[6].toNat + v[7].toNat := by
  have range_eight : List.range 8 = [0, 1, 2, 3, 4, 5, 6, 7] := rfl
  simp only [popcount, range_eight, List.countP_cons, List.countP_nil, Bool.toNat, Bool.cond_eq_ite,
    BitVec.getLsbD_eq_getElem, Nat.reduceLT]
  omega

/-- Settles O24: `popcount` is the sum of the eight bits. -/
theorem parityIsAnEvenNumberOfSetBits : Obligations.ParityIsAnEvenNumberOfSetBits := by
  intro v
  rw [parity8, popcount_eq_sum, beq_iff_eq]

/-- The table of R114 in words: no borrow from bit 4, from the operands' bits and the difference's. -/
theorem subHalf_eq_ite (a v : Byte) (w : Word) :
    subHalf a v w = if w.getLsbD 3 then a.getLsbD 3 && !v.getLsbD 3 else a.getLsbD 3 || !v.getLsbD 3 := by
  unfold subHalf hcIndex
  cases a.getLsbD 3 <;> cases v.getLsbD 3 <;> cases w.getLsbD 3 <;> rfl

/-- fH of a subtraction is the absence of a borrow from bit 4 (R115). -/
theorem subHalf_wideSub (a v : Byte) (bin : Bool) :
    subHalf a v (wideSub a v bin) = decide (v.toNat % 16 + bin.toNat ≤ a.toNat % 16) := by
  have hb := bin.toNat_le
  rw [subHalf_eq_ite, Bool.eq_iff_iff]
  simp only [getLsbD_eq_decide, wideSub_toNat, decide_eq_true_eq]
  split
  · simp only [Bool.and_eq_true, Bool.not_eq_true', decide_eq_true_eq, decide_eq_false_iff_not]
    omega
  · simp only [Bool.or_eq_true, Bool.not_eq_true', decide_eq_true_eq, decide_eq_false_iff_not]
    omega

/-- The widened difference is the integer one, wrapped (R117). -/
theorem wideSub_eq_ofInt (a v : Byte) (bin : Bool) :
    wideSub a v bin = BitVec.ofInt 16 ((a.toNat : Int) - v.toNat - bin.toNat) := by
  have hb := bin.toNat_le
  apply BitVec.eq_of_toNat_eq
  rw [wideSub_toNat, BitVec.toNat_ofInt]
  omega

/-- Settles O26: the lookups are the definitions; the closed forms are those of the widened sum and difference. -/
theorem halfCarryTablesEqualTheirClosedForms : Obligations.HalfCarryTablesEqualTheirClosedForms :=
  ⟨fun _ _ _ => ⟨rfl, rfl⟩, fun a v cin =>
    ⟨wideAdd_toNat a v cin, wideSub_eq_ofInt a v cin, addHalf_wideAdd a v cin, subHalf_wideSub a v cin⟩⟩

end Sys2Proof.Machine
end

section
/-! SUPPORT and O37 to O41. The ALU rows (spec/40_alu_ops.md R116-R121, R128): what each operation makes of A and the flags, and that
an instruction of a row is its operation on the operand read. -/

namespace Sys2Proof.Machine

open Sys2Proof.Expected

/-! ## The operations -/

/-- SZP and the two carries beside it are all five flags (R111). -/
theorem Flags.szp_with_carries (f : Flags) (r : Byte) (half carry : Bool) :
    { f.szp r with fH := half, fC := carry } = Expected.flags r half carry := rfl

theorem lo_wideAdd (a v : Byte) (cin : Bool) : Word.lo (wideAdd a v cin) = BitVec.ofNat 8 (a.toNat + v.toNat + cin.toNat) := by
  apply BitVec.eq_of_toNat_eq
  rw [Word.toNat_lo, wideAdd_toNat, BitVec.toNat_ofNat]

theorem lo_wideSub (a v : Byte) (bin : Bool) : Word.lo (wideSub a v bin) = difference a v bin := by
  have hb := bin.toNat_le
  apply BitVec.eq_of_toNat_eq
  simp only [Word.toNat_lo, wideSub_toNat, difference, BitVec.toNat_sub, BitVec.toNat_ofNat]
  omega

section Operations

variable (s : State) (v : Byte)

theorem State.aluAdd_eq_add (cin : Bool) : s.aluAdd v cin = add s v cin := by
  simp only [State.aluAdd, Flags.szp_with_carries, lo_wideAdd, addHalf_wideAdd, wideAdd_carry, add]

theorem State.aluSub_eq_difference (bin : Bool) :
    s.aluSub v bin = { s with a := difference s.a v bin, flags := subFlags s.a v bin } := by
  simp only [State.aluSub, Flags.szp_with_carries, lo_wideSub, subHalf_wideSub, wideSub_borrow, subFlags]

theorem State.aluCmp_eq_subFlags : s.aluCmp v = { s with flags := subFlags s.a v false } := by
  rw [State.aluCmp, State.aluSub_eq_difference]

theorem State.aluAna_eq_and :
    s.aluAna v = { s with a := s.a &&& v, flags := Expected.flags (s.a &&& v) (s.a[3] || v[3]) false } := by
  rw [State.aluAna, Flags.szp_with_carries, BitVec.getLsbD_or]
  rfl

theorem State.aluXra_eq_xor :
    s.aluXra v = { s with a := s.a ^^^ v, flags := Expected.flags (s.a ^^^ v) false false } := rfl

theorem State.aluOra_eq_or :
    s.aluOra v = { s with a := s.a ||| v, flags := Expected.flags (s.a ||| v) false false } := rfl

end Operations

/-! ## The instructions -/

/-- Reading an operand changes the record alone (R30). -/
theorem State.afterReg8_eq_read (s : State) (r : Reg8) : s.afterReg8 r = read s r := by
  cases r <;> rfl

theorem form_alu (o : AluOp) (r : Reg8) : (Instr.alu o r).form = .alu o r := by
  cases o <;> cases r <;> rfl

/-- An ALU row on a register or M runs its operation on the operand, once it is read (R128). -/
theorem exec_alu {o : AluOp} {r : Reg8} {s t : State} (h : (read s r).aluOp o (s.reg8 r) = t) :
    exec (Instr.alu o r) s = .next t := by
  rw [exec_eq_formEffect, form_alu, formEffect, State.afterReg8_eq_read, h]

/-- An immediate ALU row runs its operation on its operand byte (R128). -/
theorem exec_aluImm (o : AluOp) {v : Byte} {s t : State} (h : s.aluOp o v = t) : exec (Instr.aluImm o v) s = .next t := by
  subst h
  cases o <;> rfl

/-- Settles O37: all four rows are the sum, with no carry in or with fC. -/
theorem addAndAdcAddToA : Obligations.AddAndAdcAddToA :=
  ⟨fun _ _ => ⟨exec_alu (State.aluAdd_eq_add ..), exec_alu (State.aluAdd_eq_add ..)⟩,
    fun _ _ => ⟨exec_aluImm .add (State.aluAdd_eq_add ..), exec_aluImm .adc (State.aluAdd_eq_add ..)⟩⟩

/-- Settles O38: all four rows are the difference, with no borrow in or with fC. -/
theorem subAndSbbSubtractFromA : Obligations.SubAndSbbSubtractFromA :=
  ⟨fun _ _ => ⟨exec_alu (State.aluSub_eq_difference ..), exec_alu (State.aluSub_eq_difference ..)⟩,
    fun _ _ => ⟨exec_aluImm .sub (State.aluSub_eq_difference ..), exec_aluImm .sbb (State.aluSub_eq_difference ..)⟩⟩

/-- A comparison finds its operands equal exactly where the difference is zero. -/
theorem subFlags_fZ (a v : Byte) : (subFlags a v false).fZ = decide (a = v) := by
  have no_borrow_in : difference a v false = a - v := BitVec.sub_zero (a - v)
  have zero_iff : difference a v false = 0 ↔ a = v := by
    rw [no_borrow_in]
    exact sub_eq_zero
  exact decide_eq_decide.mpr zero_iff

/-- Settles O39: CMP is the difference with A put back. -/
theorem cmpSetsTheFlagsOfSubAndKeepsA : Obligations.CmpSetsTheFlagsOfSubAndKeepsA := by
  refine ⟨fun _ _ => exec_alu (State.aluCmp_eq_subFlags ..), fun _ _ => exec_aluImm .cmp (State.aluCmp_eq_subFlags ..),
    fun a v => ⟨subFlags_fZ a v, rfl⟩, fun v s t u ht hu => ?asSub⟩
  case asSub =>
    obtain rfl := eq_formEffect_of_exec ht
    obtain rfl := eq_formEffect_of_exec hu
    rfl

/-- Settles O40: fH is bit 3 of the or, which is the or of the bits 3. -/
theorem anaAndsIntoAWithItsHalfCarry : Obligations.AnaAndsIntoAWithItsHalfCarry :=
  ⟨fun _ _ => exec_alu (State.aluAna_eq_and ..), fun _ _ => exec_aluImm .ana (State.aluAna_eq_and ..)⟩

/-- Settles O41: both operations clear fH and fC by definition. -/
theorem xraAndOraClearTheCarries : Obligations.XraAndOraClearTheCarries :=
  ⟨fun _ _ => ⟨exec_alu (State.aluXra_eq_xor ..), exec_alu (State.aluOra_eq_or ..)⟩,
    fun _ _ => ⟨exec_aluImm .xra (State.aluXra_eq_xor ..), exec_aluImm .ora (State.aluOra_eq_or ..)⟩⟩

end Sys2Proof.Machine
end

section
/-! SUPPORT, O42 and O43. DAD (spec/40_alu_ops.md R124) and DAA (R125). -/

namespace Sys2Proof.Machine

open Sys2Proof.Expected

/-- The 17-bit sum of two words never wraps. -/
theorem toNat_add_setWidth_17 (x y : Word) : (x.setWidth 17 + y.setWidth 17).toNat = x.toNat + y.toNat := by
  simp only [BitVec.toNat_add, BitVec.toNat_setWidth]
  omega

/-- Its bit 16 is the carry out of bit 15. -/
theorem getLsbD_16_add_setWidth_17 (x y : Word) :
    (x.setWidth 17 + y.setWidth 17).getLsbD 16 = decide (65535 < x.toNat + y.toNat) := by
  rw [getLsbD_eq_decide, toNat_add_setWidth_17, decide_eq_decide]
  omega

theorem setWidth_16_add_setWidth_17 (x y : Word) : (x.setWidth 17 + y.setWidth 17).setWidth 16 = x + y := by
  apply BitVec.eq_of_toNat_eq
  rw [BitVec.toNat_setWidth, toNat_add_setWidth_17, BitVec.toNat_add]

/-- Settles O42: the widened sum's low 16 bits go to HL, its bit 16 to fC. -/
theorem dadAddsAPairToHl : Obligations.DadAddsAPairToHl := by
  intro p s
  have hexec : exec (Instr.dad p) s = .next (s.dadOp (s.pair p)) := by
    cases p <;> rfl
  rw [hexec, State.dadOp, setWidth_16_add_setWidth_17, getLsbD_16_add_setWidth_17, State.setPair, Word.hi_eq_extract,
    Word.lo_eq_extract]

/-- DAA is the addition of its correction, with fC the high-nibble decision (R125). -/
theorem State.daaOp_eq_add (s : State) :
    s.daaOp =
      { s with
        a := BitVec.ofNat 8 (s.a.toNat + (daaCorrection s.a s.flags).toNat)
        flags :=
          Expected.flags (BitVec.ofNat 8 (s.a.toNat + (daaCorrection s.a s.flags).toNat))
            (decide (15 < s.a.toNat % 16 + (daaCorrection s.a s.flags).toNat % 16)) (daaHigh s.a s.flags) } := by
  rw [State.daaOp, State.aluAdd_eq_add]
  rfl

/-- Settles O43: the conditions are the model's own, and the correction is their 06 and 60 together. -/
theorem daaAddsTheDecimalCorrection : Obligations.DaaAddsTheDecimalCorrection := by
  intro s
  refine ⟨daaLow s.a s.flags, daaHigh s.a s.flags, (daaCorrection s.a s.flags).toNat, ?low, ?high, ?correction,
    congrArg _ s.daaOp_eq_add⟩
  case low => rw [daaLow, Bool.or_eq_true, decide_eq_true_eq]
  case high => simp only [daaHigh, Bool.or_eq_true, Bool.and_eq_true, decide_eq_true_eq, or_assoc]
  case correction =>
    rw [daaCorrection_toNat]
    cases daaLow s.a s.flags <;> cases daaHigh s.a s.flags <;> rfl

end Sys2Proof.Machine
end

section
/-! SUPPORT, O36 and O45. Counting: INR and DCR (spec/40_alu_ops.md R122, R123), INX and DCX (spec/41_arith_logic.md R170, R171). -/

namespace Sys2Proof.Machine

open Sys2Proof.Expected

theorem lo_wideAdd_one (x : Byte) : Word.lo (wideAdd x 1 false) = x + 1 := lo_wideAdd x 1 false

theorem lo_wideSub_one (x : Byte) : Word.lo (wideSub x 1 false) = x - 1 :=
  (lo_wideSub x 1 false).trans (BitVec.sub_zero (x - 1))

/-- The flags of `x + 1` with fC kept; the half-carry is that of an addition of 1 (R122, R115). -/
theorem incFlags_eq_flags (f : Flags) (x : Byte) :
    incFlags f x = Expected.flags (x + 1) (decide (x.toNat % 16 = 15)) f.fC := by
  have half : addHalf x 1 (wideAdd x 1 false) = decide (x.toNat % 16 = 15) := by
    rw [addHalf_wideAdd, decide_eq_decide]
    change 15 < x.toNat % 16 + 1 + 0 ↔ x.toNat % 16 = 15
    omega
  rw [incFlags, lo_wideAdd_one, half]
  rfl

/-- The flags of `x - 1` with fC kept; the half-carry is that of a subtraction of 1 (R123, R115). -/
theorem decFlags_eq_flags (f : Flags) (x : Byte) :
    decFlags f x = Expected.flags (x - 1) (decide (x.toNat % 16 ≠ 0)) f.fC := by
  have half : subHalf x 1 (wideSub x 1 false) = decide (x.toNat % 16 ≠ 0) := by
    rw [subHalf_wideSub, decide_eq_decide]
    exact Nat.one_le_iff_ne_zero
  rw [decFlags, lo_wideSub_one, half]
  rfl

/-- Settles O36: the operand is read, counted and written back; fC is the one the flags had. -/
theorem inrAndDcrKeepTheCarry : Obligations.InrAndDcrKeepTheCarry := by
  intro r s
  have inr_increments : exec (Instr.inr r) s = increment r s := by cases r <;> rfl
  have dcr_decrements : exec (Instr.dcr r) s = decrement r s := by cases r <;> rfl
  rw [inr_increments, dcr_decrements, increment_spec, decrement_spec, State.afterReg8_eq_read, incFlags_eq_flags,
    decFlags_eq_flags, lo_wideAdd_one, lo_wideSub_one]
  exact ⟨rfl, rfl⟩

/-- Settles O45: subtracting 1 from a word is adding 65535, modulo 65536. -/
theorem inxAndDcxCountPairsWithoutFlags : Obligations.InxAndDcxCountPairsWithoutFlags := by
  intro p s
  have inx_adds_one : exec (Instr.inx p) s = .next (s.setPair p (s.pair p + 1)) := by cases p <;> rfl
  have dcx_subtracts_one : exec (Instr.dcx p) s = .next (s.setPair p (s.pair p - 1)) := by cases p <;> rfl
  have add_one (w : Word) : w + 1 = BitVec.ofNat 16 (w.toNat + 1) := rfl
  have sub_one (w : Word) : w - 1 = BitVec.ofNat 16 (w.toNat + 65535) := by bv_omega
  rw [inx_adds_one, dcx_subtracts_one, add_one, sub_one]
  exact ⟨rfl, rfl⟩

end Sys2Proof.Machine
end

section
/-! SUPPORT and O46. The rotates (spec/41_arith_logic.md R172-R175), CMA, STC and CMC (R176-R178). -/

namespace Sys2Proof.Machine

/-- A shift left by one with `b` put in at bit 0: bits 6 to 0, then `b`. -/
theorem shiftLeft_or_bitByte (a : Byte) (b : Bool) :
    a <<< 1 ||| bitByte b = a.extractLsb' 0 7 ++ BitVec.ofBool b := by
  have shifted : a <<< 1 = a.extractLsb' 0 7 ++ 0#1 := BitVec.shiftLeft_eq_concat_of_lt (by decide)
  have low : bitByte b = 0#7 ++ BitVec.ofBool b := BitVec.setWidth_eq_append (by decide)
  rw [shifted, low, BitVec.or_append, BitVec.or_zero, BitVec.zero_or]

/-- A shift right by one with `b` put in at bit 7: `b`, then bits 7 to 1. -/
theorem ushiftRight_or_bitByte (a : Byte) (b : Bool) :
    a >>> 1 ||| bitByte b <<< 7 = BitVec.ofBool b ++ a.extractLsb' 1 7 := by
  have shifted : a >>> 1 = 0#1 ++ a.extractLsb' 1 7 := BitVec.ushiftRight_eq_extractLsb'_of_lt (by decide)
  have high : bitByte b <<< 7 = BitVec.ofBool b ++ 0#7 := by cases b <;> rfl
  rw [shifted, high, BitVec.or_append, BitVec.zero_or, BitVec.or_zero]

/-- One bit as a word of width 1. -/
theorem ofBool_getLsbD_eq_extract (a : Byte) (k : Nat) : BitVec.ofBool (a.getLsbD k) = a.extractLsb' k 1 := by
  ext i hi
  obtain rfl : i = 0 := by omega
  simp

/-- An instruction that rotates A to `v` answers the state with `v'`, the same byte written otherwise, and the bit rotated out. -/
theorem exec_eq_rotated {i : Instr} {s : State} {v v' : Byte} {carry : Bool} (h : exec i s = rotate v carry s) (hv : v = v') :
    exec i s = .next (s.rotated v' carry) := by
  rw [h, hv]
  rfl

/-- CMC inverts fC (R178). -/
theorem exec_cmc (s : State) : exec .cmc s = .next { s with flags := { s.flags with fC := !s.flags.fC } } := rfl

/-- Settles O46: each rotate shifts A and fills the free end, with the bit that left it or with fC. -/
theorem rotatesComplementAndCarryInstructions : Obligations.RotatesComplementAndCarryInstructions := by
  intro s
  have left_circular : s.a <<< 1 ||| bitByte (s.a.getLsbD 7) = s.a.extractLsb' 0 7 ++ s.a.extractLsb' 7 1 := by
    rw [shiftLeft_or_bitByte, ofBool_getLsbD_eq_extract]
  have right_circular : s.a >>> 1 ||| bitByte (s.a.getLsbD 0) <<< 7 = s.a.extractLsb' 0 1 ++ s.a.extractLsb' 1 7 := by
    rw [ushiftRight_or_bitByte, ofBool_getLsbD_eq_extract]
  refine ⟨exec_eq_rotated rfl left_circular, exec_eq_rotated rfl right_circular, exec_eq_rotated rfl (shiftLeft_or_bitByte ..),
    exec_eq_rotated rfl (ushiftRight_or_bitByte ..), ?cma, rfl, exec_cmc s, ?cmcTwice⟩
  case cma =>
    have complement : ~~~s.a = 0xFF ^^^ s.a := BitVec.not_def
    rw [← complement]
    rfl
  case cmcTwice =>
    intro t ht
    rw [exec_cmc] at ht
    cases ht
    simp only [exec_cmc, Bool.not_not]

end Sys2Proof.Machine
end

section
/-! SUPPORT, O27, O28, O30, O31, O29 and O32. Moves, loads, stores and exchanges (spec/42_data_transfer.md R200-R214): what a word
access makes of the two bytes, and that each instruction is its access on the pair or the register it names. -/

namespace Sys2Proof.Machine

/-! ## The bytes of a word access -/

/-- The high half of a word read is the byte at the next address (R54). -/
@[simp] theorem State.hi_wordAt (s : State) (a : Word) : Word.hi (s.wordAt a) = s.byteAt (a + 1) := Word.hi_ofBytes ..

@[simp] theorem State.lo_wordAt (s : State) (a : Word) : Word.lo (s.wordAt a) = s.byteAt a := Word.lo_ofBytes ..

/-- What every byte reads as where memory is a canonical one with a word stored (R55, R56). -/
theorem byteAt_of_mem_eq_writeWord {s t : State} (hs : MemoryCanonical s) {a v : Word}
    (ht : t.mem = Memory.writeWord s.mem a v) :
    t.byteAt a = Word.lo v ∧ t.byteAt (a + 1) = Word.hi v ∧ ∀ x : Word, x ≠ a → x ≠ a + 1 → t.byteAt x = s.byteAt x := by
  unfold State.byteAt
  rw [ht, Word.lo_eq_extract, Word.hi_eq_extract]
  exact ⟨Memory.readByte_writeWord_low hs a v, Memory.readByte_writeWord_high hs a v, fun _ => Memory.readByte_writeWord_ne _ v⟩

/-- HL stored: L at the address, H at the next one (R209, R213). -/
theorem byteAt_of_mem_eq_writeWord_hl {s t : State} (hs : MemoryCanonical s) {a : Word}
    (ht : t.mem = Memory.writeWord s.mem a s.hl) :
    t.byteAt a = s.l ∧ t.byteAt (a + 1) = s.h ∧ ∀ x : Word, x ≠ a → x ≠ a + 1 → t.byteAt x = s.byteAt x := by
  simpa only [State.hl, Word.lo_ofBytes, Word.hi_ofBytes] using byteAt_of_mem_eq_writeWord hs ht

/-! ## Moves -/

theorem form_mov {dst r : Reg8} {i : Instr} (h : Instr.mov dst r = some i) : i.form = .mov dst r := by
  cases dst <;> cases r <;> cases h <;> rfl

/-- Settles O27: a move of the form reads its source, then writes its destination. -/
theorem movAndMviMoveBytes : Obligations.MovAndMviMoveBytes := by
  refine ⟨?onlyMM, ?mov, ?mvi⟩
  case onlyMM =>
    intro dst r
    cases dst <;> cases r <;> decide
  case mov =>
    intro dst r i s h
    rw [exec_eq_formEffect, form_mov h, formEffect, State.afterReg8_eq_read]
  case mvi =>
    intro r v s
    cases r <;> rfl

/-- Settles O28: the halves of the immediate word are its two bytes. -/
theorem lxiLoadsThePair : Obligations.LxiLoadsThePair := by
  intro v s
  rw [← Word.hi_eq_extract, ← Word.lo_eq_extract]
  exact ⟨rfl, rfl, rfl, rfl⟩

/-! ## Loads and stores -/

/-- Settles O29: the byte loads are their definitions; LHLD splits the word it reads into its two bytes. -/
theorem directAndIndirectLoads : Obligations.DirectAndIndirectLoads := by
  intro s a
  refine ⟨rfl, ⟨rfl, rfl, rfl, rfl⟩, rfl, rfl, ?lhld⟩
  case lhld =>
    have hword : s.byteAt (a + 1) ++ s.byteAt a = s.wordAt a := rfl
    rw [hword, ← s.hi_wordAt, ← s.lo_wordAt]
    rfl

/-- Settles O30: each is one write of A or of HL, and what a write leaves in a canonical memory is known byte by byte. -/
theorem directAndIndirectStores : Obligations.DirectAndIndirectStores := by
  refine ⟨⟨rfl, rfl, rfl, rfl⟩, fun s a hs => ⟨?bytes, _, rfl, rfl, ?word⟩⟩
  case bytes =>
    intro p hp
    have hexec : exec p.1 s = .next (s.memWriteByte p.2 s.a) := by
      fin_cases hp <;> rfl
    refine ⟨_, hexec, rfl, ?written, ?others⟩
    case written => rw [State.byteAt_memWriteByte hs, if_pos rfl]
    case others =>
      intro x hx
      rw [State.byteAt_memWriteByte hs, if_neg hx]
  case word => exact byteAt_of_mem_eq_writeWord_hl hs rfl

/-! ## Exchanges -/

/-- XCHG exchanges the registers of DE and HL (R212). -/
theorem exec_xchg (s : State) : exec .xchg s = .next { s with d := s.h, e := s.l, h := s.d, l := s.e } := by
  have hexec : exec .xchg s = .next ((s.setPair .de s.hl).setPair .hl s.de) := rfl
  simp only [hexec, State.setPair, State.hl, State.de, Word.hi_ofBytes, Word.lo_ofBytes]

/-- Settles O31: exchanging the registers twice puts each back. -/
theorem xchgAndSphlMoveTheirPairs : Obligations.XchgAndSphlMoveTheirPairs := by
  intro s
  refine ⟨exec_xchg s, ?twice, rfl⟩
  case twice =>
    intro t ht
    obtain rfl := Host.Outcome.next.inj ((exec_xchg s).symm.trans ht)
    exact exec_xchg _

/-- XTHL puts the two bytes of the word at SP in HL and the old HL in their place (R213). -/
theorem exec_xthl (s : State) :
    exec .xthl s = .next
      { s with
        h := s.byteAt (s.sp + 1)
        l := s.byteAt s.sp
        mem := Memory.writeWord s.mem s.sp s.hl
        trace := .memWriteWord s.sp s.hl :: .memReadWord s.sp (s.wordAt s.sp) :: s.trace } := by
  rw [← s.hi_wordAt, ← s.lo_wordAt]
  rfl

/-- Settles O32: the word is read before HL is stored over it. -/
theorem xthlExchangesHlWithTheStackTop : Obligations.XthlExchangesHlWithTheStackTop :=
  fun s hs => ⟨_, exec_xthl s, rfl, byteAt_of_mem_eq_writeWord_hl hs rfl⟩

end Sys2Proof.Machine
end

section
/-! SUPPORT, O33, O35 and O34. The stack (spec/42_data_transfer.md R215-R219): what PUSH and POP answer, and that a pop gives back
what was pushed. -/

namespace Sys2Proof.Machine

/-- Settles O33: every PUSH is the word write at the new SP, and SP - 1 is the address after SP - 2. -/
theorem pushStoresBelowTheStackPointer : Obligations.PushStoresBelowTheStackPointer := by
  refine ⟨⟨rfl, rfl, rfl, rfl⟩, fun s hs p hp => ?_⟩
  have hexec : exec p.1 s = .next (s.push p.2) := by
    fin_cases hp <;> rfl
  have hnext : s.sp - 1 = s.sp - 2 + 1 := by bv_omega
  rw [hnext, ← Word.lo_eq_extract, ← Word.hi_eq_extract]
  exact ⟨_, hexec, s.push_spec p.2, byteAt_of_mem_eq_writeWord hs (s.push_mem p.2)⟩

/-- Settles O34: the halves of the word popped are the bytes at SP and SP + 1; unpacking the flags reads their bits. -/
theorem popLoadsFromTheStackPointer : Obligations.PopLoadsFromTheStackPointer := by
  refine ⟨⟨rfl, rfl, rfl, rfl⟩, fun s => ?_⟩
  rw [← s.hi_wordAt, ← s.lo_wordAt]
  exact ⟨rfl, rfl, rfl, rfl⟩

/-- A pop right after a push returns the word pushed, and only memory and the record differ from before (R219). -/
theorem State.pop_push {s : State} (hs : MemoryCanonical s) (v : Word) :
    (s.push v).pop =
      (v, { s with mem := (s.push v).mem, trace := .memReadWord (s.sp - 2) v :: (s.push v).trace }) := by
  rw [State.pop_spec, State.push_sp, State.wordAt_push hs, BitVec.sub_add_cancel]
  rfl

/-- A pair written back leaves the state, whatever memory and the record have become meanwhile (R23). -/
theorem State.setPair_pair (s : State) (m : Memory) (ts : List Transaction) (p : Pair) :
    State.setPair { s with mem := m, trace := ts } p (s.pair p) = { s with mem := m, trace := ts } := by
  cases p with
  | bc | de | hl => simp only [State.setPair, State.pair, State.bc, State.de, State.hl, Word.hi_ofBytes, Word.lo_ofBytes]
  | sp => rfl

/-- PUSH then POP of a pair (R215, R217). -/
theorem popPair_after_pushPair {s : State} (hs : MemoryCanonical s) (p : Pair) :
    ∃ t u, pushPair p s = .next t ∧ popPair p t = .next u ∧ u = { s with mem := u.mem, trace := u.trace } := by
  refine ⟨_, _, rfl, rfl, ?_⟩
  rw [State.pop_push hs, State.setPair_pair]

/-- PUSH PSW then POP PSW: A is the high byte, and the flags come back from their byte (R216, R218). -/
theorem popPSW_after_pushPSW {s : State} (hs : MemoryCanonical s) :
    ∃ t u, exec .pushPSW s = .next t ∧ exec .popPSW t = .next u ∧ u = { s with mem := u.mem, trace := u.trace } := by
  refine ⟨_, _, rfl, rfl, ?_⟩
  rw [State.pop_push hs, Word.hi_ofBytes, Word.lo_ofBytes, unpackFlags_packFlags]

/-- Settles O35: the word popped is the word pushed, at every SP, so what it was made of comes back. -/
theorem pushThenPopRestoresThePair : Obligations.PushThenPopRestoresThePair := by
  intro s hs p hp
  fin_cases hp
  · exact popPair_after_pushPair hs .bc
  · exact popPair_after_pushPair hs .de
  · exact popPair_after_pushPair hs .hl
  · exact popPSW_after_pushPSW hs

end Sys2Proof.Machine
end

section
/-! SUPPORT, O20, O48, O49, O50 and O51. Control transfers (spec/43_control.md): what every jump, call, restart and return answers,
that a return undoes a call, and that PC advances past everything else. -/

namespace Sys2Proof.Machine

/-- Settles O20: the fetch leaves PC past the instruction, and a form that writes no PC leaves it there. -/
theorem pcAdvancesPastEveryInstructionThatDoesNotTransfer :
    Obligations.PcAdvancesPastEveryInstructionThatDoesNotTransfer := by
  intro s i rest hd hpc
  have hstep : step s = _ := stepWith_of_decode hd cycleTable
  rw [exec_eq_formEffect, returnCycles_of_next] at hstep
  exact ⟨_, hstep, pc_formEffect i.operandByte i.operandWord (s.fetched i.length) hpc⟩

/-! ## What the transfers answer -/

section Transfers

variable (s : State) (a : Word) (cc : Cond)

theorem exec_jcc : exec (Instr.jcc cc a) s = jumpIf cc a s := by
  cases cc <;> rfl

theorem exec_ccc : exec (Instr.ccc cc a) s = callIf cc a s := by
  cases cc <;> rfl

theorem exec_rcc : exec (Instr.rcc cc) s = returnIf cc s := by
  cases cc <;> rfl

theorem form_rst (n : BitVec 3) : (Instr.rst n).form = .rst n := by
  revert n
  decide

theorem exec_rst (n : BitVec 3) : exec (Instr.rst n) s = restart n s := by
  rw [exec_eq_formEffect, form_rst]
  rfl

/-- CALL and the bytes that stand for it (R242, R98). -/
theorem exec_of_mem_calls {i : Instr} (hi : i ∈ [Instr.call a, .callDD a, .callED a, .callFD a]) :
    exec i s = .next (s.callTo a) := by
  fin_cases hi <;> rfl

/-- RET and the byte that stands for it (R244, R98). -/
theorem exec_of_mem_returns {i : Instr} (hi : i ∈ [Instr.ret, .retD9]) : exec i s = .next s.returnFrom := by
  fin_cases hi <;> rfl

/-- A jump not taken leaves PC, so a conditional jump is one write of PC (R241). -/
theorem jumpIf_eq_setPc : jumpIf cc a s = .next { s with pc := if condHolds cc s.flags = true then a else s.pc } := by
  unfold jumpIf
  split <;> rfl

theorem State.callTo_eq_push : s.callTo a = { Expected.push s s.pc with pc := a } := rfl

theorem State.returnFrom_eq_pop :
    s.returnFrom = { Expected.pop s with pc := s.byteAt (s.sp + 1) ++ s.byteAt s.sp } := rfl

theorem restartVector_eq_ofNat (n : BitVec 3) : restartVector n = BitVec.ofNat 16 (8 * n.toNat) := by
  revert n
  decide

end Transfers

/-- Settles O48: JMP and PCHL are their definitions. -/
theorem jumpsSetPc : Obligations.JumpsSetPc :=
  fun s a => ⟨rfl, rfl, rfl, fun cc => (exec_jcc s a cc).trans (jumpIf_eq_setPc s a cc)⟩

/-- Settles O49: every call and restart pushes PC and jumps, a conditional one where its condition holds. -/
theorem callsAndRestartsPushTheNextAddressAndJump : Obligations.CallsAndRestartsPushTheNextAddressAndJump := by
  intro s a
  simp only [← State.callTo_eq_push, ← restartVector_eq_ofNat]
  exact ⟨fun _ => exec_of_mem_calls s a, exec_ccc s a, exec_rst s, rfl⟩

/-- Settles O50: every return pops PC, a conditional one where its condition holds. -/
theorem returnsPopPc : Obligations.ReturnsPopPc := by
  intro s
  rw [← State.returnFrom_eq_pop]
  exact ⟨fun _ => exec_of_mem_returns s, exec_rcc s⟩

/-! ## A return after a call -/

theorem exec_ccc_taken {cc : Cond} {s : State} (hc : condHolds cc s.flags = true) (a : Word) :
    exec (Instr.ccc cc a) s = .next (s.callTo a) := by
  rw [exec_ccc, callIf, if_pos hc]

theorem exec_rcc_taken {cc : Cond} {s : State} (hc : condHolds cc s.flags = true) :
    exec (Instr.rcc cc) s = .next s.returnFrom := by
  rw [exec_rcc, returnIf, if_pos hc]

/-- The return pops the PC that the call pushed, so only memory and the record differ from before (R249). -/
theorem State.returnFrom_callTo {s : State} (hs : MemoryCanonical s) (a : Word) :
    (s.callTo a).returnFrom =
      { s with mem := (s.push s.pc).mem, trace := .memReadWord (s.sp - 2) s.pc :: (s.push s.pc).trace } := by
  have target_unread : (s.callTo a).returnFrom = (s.push s.pc).returnFrom := rfl
  rw [target_unread, State.returnFrom, State.pop_push hs]

/-- Settles O51: each call form is a call to some target, each return form a return; the call keeps the flags that a conditional
return tests. -/
theorem callThenReturnRestoresPcAndSp : Obligations.CallThenReturnRestoresPcAndSp := by
  intro s a cc ret n hs i j hi hj
  obtain ⟨target, hcall⟩ : ∃ target, exec i s = .next (s.callTo target) := by
    rcases hi with hi | ⟨rfl, hc⟩ | rfl
    · exact ⟨a, exec_of_mem_calls s a hi⟩
    · exact ⟨a, exec_ccc_taken hc a⟩
    · exact ⟨restartVector n, exec_rst s n⟩
  have hreturn : exec j (s.callTo target) = .next (s.callTo target).returnFrom := by
    rcases hj with hj | ⟨rfl, hc⟩
    · exact exec_of_mem_returns _ hj
    · exact exec_rcc_taken hc
  refine ⟨_, _, hcall, hreturn, ?_⟩
  rw [State.returnFrom_callTo hs]

end Sys2Proof.Machine
end

section
/-! SUPPORT, O52, O53 and O54. The system instructions (spec/44_system.md R270 to R275): NOP and HLT, with the step
that runs them, EI and DI, and the ports. -/

namespace Sys2Proof.Machine

/-! ## NOP and HLT -/

/-- The step at a one-byte instruction, with its count (R90, R352). -/
theorem step_eq_of_encode_eq_byteAt_pc {s : State} {i : Instr} (h : encode i = [s.byteAt s.pc]) :
    step s = returnCycles (formCycles (conditionTaken i s.flags) i.form) (exec i (s.fetched 1)) := by
  have hwindow : s.fetchWindow = encode i ++ [s.byteAt (s.pc + 1), s.byteAt (s.pc + 2)] := by
    rw [h]
    rfl
  have hlen : i.length = 1 := congrArg List.length h
  rw [step, stepWith_of_decode (hwindow ▸ decode_encode_append i _), hlen, cycleTable_opcode h]

/-- NOP leaves the state alone (R270). -/
theorem exec_of_form_eq_nop {i : Instr} (h : i.form = .nop) (s : State) : exec i s = .next s := by
  rw [exec_eq_formEffect, h, formEffect]

/-- HLT moves PC back by its own length (R271). -/
theorem exec_hlt (s : State) : exec .hlt s = .next { s with pc := s.pc - 1 } := rfl

/-- The eight bytes of NOP encode instructions of its form (R98). -/
theorem exists_nop_of_mem {op : Byte} (h : op ∈ [0x00#8, 0x08, 0x10, 0x18, 0x20, 0x28, 0x30, 0x38]) :
    ∃ i : Instr, encode i = [op] ∧ i.form = .nop := by
  fin_cases h
  exacts [⟨.nop, rfl, rfl⟩, ⟨.nop08, rfl, rfl⟩, ⟨.nop10, rfl, rfl⟩, ⟨.nop18, rfl, rfl⟩, ⟨.nop20, rfl, rfl⟩,
    ⟨.nop28, rfl, rfl⟩, ⟨.nop30, rfl, rfl⟩, ⟨.nop38, rfl, rfl⟩]

/-- Settles O52: all eight have the form NOP; HLT takes back the one byte that its fetch moved PC by. -/
theorem nopAndHaltMoveOnlyPc : Obligations.NopAndHaltMoveOnlyPc := by
  intro s
  refine ⟨?nops, exec_hlt s, ?stepNop, ?stepHlt⟩
  case nops =>
    have hform : ∀ i ∈ [Instr.nop, .nop08, .nop10, .nop18, .nop20, .nop28, .nop30, .nop38], i.form = .nop := by decide
    exact fun i hi => exec_of_form_eq_nop (hform i hi) s
  case stepNop =>
    intro hop
    obtain ⟨i, henc, hform⟩ := exists_nop_of_mem hop
    rw [step_eq_of_encode_eq_byteAt_pc henc, exec_of_form_eq_nop hform, hform]
    rfl
  case stepHlt =>
    intro hop
    have henc : encode .hlt = [s.byteAt s.pc] := congrArg (fun op => [op]) hop.symm
    have hpc : (s.fetched 1).pc - 1 = s.pc := BitVec.add_sub_cancel s.pc 1
    rw [step_eq_of_encode_eq_byteAt_pc henc, exec_hlt, hpc, ← hop, cycleTable_opcode henc]
    rfl

/-! ## IFF -/

/-- Settles O53: EI and DI are one write of IFF and one notification, with no test of the old value. -/
theorem enableAndDisableInterruptsNotify : Obligations.EnableAndDisableInterruptsNotify :=
  fun _ => ⟨rfl, rfl⟩

/-! ## Ports -/

/-- A port input uses up the answer that the host has ready (R57). -/
theorem State.portInput_of_ready {s : State} {v : Byte} {vs : List Byte} (h : s.portAnswers = v :: vs) (p : Byte) :
    s.portInput p = (v, { s with portAnswers := vs, trace := .portIn p v :: s.trace }) := by
  simp [State.portInput_spec, State.portValue, h]

/-- With no answer ready a port input draws the next free value (R62). -/
theorem State.portInput_of_none_ready {s : State} (h : s.portAnswers = []) (p : Byte) :
    s.portInput p =
      (Config.portInValue s.portDraws p,
        { s with
          portDraws := s.portDraws + 1
          trace := .portIn p (Config.portInValue s.portDraws p) :: s.trace }) := by
  simp [State.portInput_spec, State.portValue, h]

/-- IN answers what its port input leaves, with the byte in A (R274). -/
theorem exec_inPort_of_portInput {s t : State} {p v : Byte} (h : s.portInput p = (v, t)) :
    exec (.inPort p) s = .next { t with a := v } := by
  obtain ⟨rfl, rfl⟩ := Prod.mk.inj h
  rfl

/-- Settles O54: IN is its port input, with or without an answer ready; OUT is one output of A. -/
theorem portInputAndOutput : Obligations.PortInputAndOutput := by
  intro s p
  refine ⟨?ready, ?noneReady, rfl⟩
  case ready => exact fun v vs h => exec_inPort_of_portInput (State.portInput_of_ready h p)
  case noneReady => exact fun h => ⟨_, exec_inPort_of_portInput (State.portInput_of_none_ready h p)⟩

end Sys2Proof.Machine
end

section
/-! SUPPORT and O9. No exception exists (spec/60_exceptions.md R300, R301): the fetch always finds an instruction, and every
instruction completes. -/

namespace Sys2Proof.Machine

/-- No operand, access or arithmetic result stops an instruction (R300). -/
theorem exec_completes (i : Instr) (s : State) : ∃ t, exec i s = .next t :=
  ⟨_, exec_eq_formEffect i s⟩

/-- A step runs the instruction it found and only adds the count, whatever the cycle table (R96, R301). -/
theorem stepWith_completes (T : CycleTable) (s : State) : ∃ t, stepWith T s = .next t := by
  obtain ⟨i, _, -, -, -, hstep⟩ := stepWith_spec T s
  obtain ⟨u, hexec⟩ := exec_completes i (s.fetched i.length)
  exact ⟨_, by rw [hstep, hexec, returnCycles_of_next]⟩

/-- Settles O9: `step` is the step under the default cycle table. -/
theorem noStepFaultsOrIsRefused : Obligations.NoStepFaultsOrIsRefused :=
  ⟨exec_completes, stepWith_completes, stepWith_completes cycleTable⟩

end Sys2Proof.Machine
end

section
/-! SUPPORT, O10 and O11. The count a step returns (spec/70_reset_and_hazards.md R351 to R353): the table's entry for the opcode
byte fetched and the outcome of the condition, and what the default table's rows make of it. -/

namespace Sys2Proof.Machine

/-! ## The outcome of the condition -/

/-- A form's condition is tested on the flags before the step (R351). -/
theorem conditionTaken_of_formCondition {i : Instr} {cc : Cond} (h : formCondition i.form = some cc) (f : Flags) :
    conditionTaken i f = condHolds cc f := by
  rw [conditionTaken, h]

theorem form_jcc (cc : Cond) (a : Word) : (Instr.jcc cc a).form = .jcc cc := by
  cases cc <;> rfl

theorem form_ccc (cc : Cond) (a : Word) : (Instr.ccc cc a).form = .ccc cc := by
  cases cc <;> rfl

theorem form_rcc (cc : Cond) : (Instr.rcc cc).form = .rcc cc := by
  cases cc <;> rfl

/-- The conditional jumps, calls and returns test the condition that they name (R87). -/
theorem formCondition_of_conditional {i : Instr} {cc : Cond} {a : Word}
    (h : i = .jcc cc a ∨ i = .ccc cc a ∨ i = .rcc cc) : formCondition i.form = some cc := by
  obtain rfl | rfl | rfl := h
  · rw [form_jcc, formCondition]
  · rw [form_ccc, formCondition]
  · rw [form_rcc, formCondition]

/-! ## The count under any table -/

/-- Settles O10: a step is the instruction's outcome with the count written last, so another table replaces the count alone. -/
theorem stepReturnsTheCycleTableEntry : Obligations.StepReturnsTheCycleTableEntry := by
  intro T U s t h
  obtain ⟨i, u, rest, hd, hexec, rfl⟩ := stepWith_next h
  refine ⟨⟨i, rest, hd, rfl, fun cc a hi => ?taken⟩, U (s.byteAt s.pc) (conditionTaken i s.flags), ?other⟩
  case taken => rw [conditionTaken_of_formCondition (formCondition_of_conditional hi)]
  case other => rw [stepWith_of_decode hd, hexec, returnCycles_of_next]

/-! ## The default table -/

/-- 01dddsss is a MOV unless both selectors are M (R92, R94). -/
theorem exists_mov {dst r : Reg8} (h : dst ≠ .m) : ∃ i, Instr.mov dst r = some i := by
  cases dst with
  | m => exact absurd rfl h
  | b | c | d | e | h | l | a => cases r <;> exact ⟨_, rfl⟩

theorem formCycles_mov {dst r : Reg8} (hdst : dst ≠ .m) (hr : r ≠ .m) (taken : Bool) : formCycles taken (.mov dst r) = 5 := by
  rw [formCycles]
  exacts [hr, hdst]

theorem formCycles_alu (o : AluOp) {r : Reg8} (hr : r ≠ .m) (taken : Bool) : formCycles taken (.alu o r) = 4 := by
  rw [formCycles]
  exact hr

theorem cycleTable_mov {dst r : Reg8} (hdst : dst ≠ .m) (hr : r ≠ .m) (taken : Bool) :
    cycleTable (0b01#2 ++ dst.bits ++ r.bits : BitVec 8) taken = 5 := by
  obtain ⟨i, hi⟩ := exists_mov (r := r) hdst
  rw [cycleTable_opcode (encode_mov hi), form_mov hi, formCycles_mov hdst hr]

theorem cycleTable_alu (o : AluOp) {r : Reg8} (hr : r ≠ .m) (taken : Bool) :
    cycleTable (0b10#2 ++ o.bits ++ r.bits : BitVec 8) taken = 4 := by
  rw [cycleTable_opcode (encode_alu o r), form_alu, formCycles_alu o hr]

theorem cycleTable_rcc (cc : Cond) (taken : Bool) :
    cycleTable (0b11#2 ++ cc.bits ++ 0b000#3 : BitVec 8) taken = if taken then 11 else 5 := by
  rw [cycleTable_opcode (encode_rcc cc), form_rcc, formCycles]

theorem cycleTable_ccc (cc : Cond) (taken : Bool) :
    cycleTable (0b11#2 ++ cc.bits ++ 0b100#3 : BitVec 8) taken = if taken then 17 else 11 := by
  rw [cycleTable_opcode (encode_ccc cc 0), form_ccc, formCycles]

theorem cycleTable_jcc (cc : Cond) (taken : Bool) :
    cycleTable (0b11#2 ++ cc.bits ++ 0b010#3 : BitVec 8) taken =
      if taken then Config.cyclesJccTaken else Config.cyclesJccNotTaken := by
  rw [cycleTable_opcode (encode_jcc cc 0), form_jcc, formCycles]

/-- A step completes with the default table's entry for its opcode byte, at the outcome of the condition where there is one. -/
theorem exists_step_cycles (s : State) :
    ∃ t taken, step s = .next t ∧ t.cycles = cycleTable (s.byteAt s.pc) taken ∧
      ∀ {i : Instr} {operand : List Byte} {cc : Cond}, encode i = s.byteAt s.pc :: operand →
        formCondition i.form = some cc → taken = condHolds cc s.flags := by
  obtain ⟨j, rest, -, -, hform, hstep⟩ := stepWith_spec cycleTable s
  obtain ⟨u, hexec⟩ := exec_completes j (s.fetched j.length)
  rw [hexec, returnCycles_of_next] at hstep
  refine ⟨_, _, hstep, rfl, fun {i _ cc} henc hcond => ?_⟩
  have hij : j.form = i.form := Option.some.inj (hform.symm.trans (dispatch_opcode_form henc))
  exact conditionTaken_of_formCondition (hij ▸ hcond) s.flags

/-- Settles O11: the rows are computed byte by byte, or read off the form of the family's instruction; a step returns the entry of
its opcode byte, for Jcc, Ccc and Rcc at the outcome of their condition. -/
theorem stepCycleCountsAreThoseOfTheDefaultTable : Obligations.StepCycleCountsAreThoseOfTheDefaultTable := by
  refine ⟨fun taken => ⟨?rows, fun _ _ hdst hr => cycleTable_mov hdst hr taken, fun o _ hr => cycleTable_alu o hr taken,
    fun cc => ⟨cycleTable_rcc cc taken, cycleTable_ccc cc taken, cycleTable_jcc cc taken⟩⟩, fun s => ?steps⟩
  case rows => cases taken <;> decide
  case steps =>
    obtain ⟨t, taken, hstep, hcycles, htaken⟩ := exists_step_cycles s
    refine ⟨t, hstep, fun hop => ?mviA, fun hop => ?rst7, fun hop => ?nop, fun cc =>
      ⟨fun hop => ?ccc, fun hop => ?rcc, fun hop => ?jcc⟩⟩
    case mviA => rw [hcycles, hop]; rfl
    case rst7 => rw [hcycles, hop]; rfl
    case nop =>
      obtain ⟨i, henc, hform⟩ := exists_nop_of_mem hop
      rw [hcycles, cycleTable_opcode henc, hform, formCycles]
    all_goals rw [hop] at hcycles htaken
    case ccc =>
      rw [hcycles, cycleTable_ccc, htaken (encode_ccc cc 0) (formCondition_of_conditional (.inr (.inl rfl)))]
    case rcc =>
      rw [hcycles, cycleTable_rcc, htaken (encode_rcc cc) (formCondition_of_conditional (a := 0) (.inr (.inr rfl)))]
    case jcc => rw [hcycles, cycleTable_jcc, htaken (encode_jcc cc 0) (formCondition_of_conditional (.inl rfl))]

end Sys2Proof.Machine
end

section
/-! SUPPORT, O56, O57 and O58. What the host does between steps (spec/70_reset_and_hazards.md R340 to R345): reset, force-jump,
and the end of a run at the first halted state. -/

namespace Sys2Proof.Machine

/-- Settles O56: reset is this one record update. -/
theorem resetSetsPcAndIffAndKeepsTheHostsSide : Obligations.ResetSetsPcAndIffAndKeepsTheHostsSide :=
  fun _ _ _ => rfl

/-- Settles O58: the bytes at the new PC are the old state's, so the next step runs what the decoder reads there. -/
theorem forceJumpSetsPcAlone : Obligations.ForceJumpSetsPcAlone :=
  fun s addr => ⟨rfl, BitVec.toNat_ofNat addr 16,
    fun _ _ hd => ⟨_, stepWith_of_decode (s := s.forceJump addr) hd cycleTable⟩⟩

/-! ## Runs -/

theorem run_zero (s : State) : Host.Core.run Sys2Proof.core 0 s = .next s := rfl

/-- A run of one step more is the run from where that step goes. -/
theorem run_succ {M : Host.Core} {s t : M.State} (h : M.step s = .next t) (n : Nat) : M.run (n + 1) s = M.run n t := by
  rw [Host.Core.run, h]

theorem step_of_halted {s : State} (h : s.halted = true) :
    step s = .next { s with trace := .memReadByte s.pc 0x76 :: s.trace, cycles := cycleTable 0x76 true } := by
  obtain ⟨-, -, -, hhlt⟩ := nopAndHaltMoveOnlyPc s
  exact hhlt (eq_of_beq h)

/-- From a halted state, a run of any length only records its fetches of HLT (R271). -/
theorem run_of_halted (n : Nat) {s : State} (h : s.halted = true) :
    ∃ t : State, Host.Core.run Sys2Proof.core n s = .next t ∧ t.halted = true ∧
      t = { s with trace := t.trace, cycles := t.cycles } := by
  induction n generalizing s with
  | zero => exact ⟨s, run_zero s, h, rfl⟩
  | succ n ih =>
    rw [run_succ (M := Sys2Proof.core) (step_of_halted h)]
    exact ih h

/-! ## The end state -/

theorem endState_of_halted {s : State} (h : s.halted = true) (n : Nat) : endState n s = some s := by
  cases n <;> exact if_pos h

theorem endState_zero_of_not_halted {s : State} (h : s.halted = false) : endState 0 s = none := by
  rw [endState, h, if_neg Bool.false_ne_true]

theorem endState_succ_of_not_halted {s t : State} (h : s.halted = false) (hstep : step s = .next t) (n : Nat) :
    endState (n + 1) s = endState n t := by
  rw [endState, h, if_neg Bool.false_ne_true, hstep]

/-- No state that a run from `s` passes within fewer than `n` steps is halted. -/
def NotHaltedBefore (n : Nat) (s : State) : Prop :=
  ∀ k < n, ∀ u : State, Host.Core.run Sys2Proof.core k s = .next u → u.halted = false

/-- `t` is the first halted state of the run from `s`, at most `n` steps on (R345, D22). -/
def FirstHalted (n : Nat) (s t : State) : Prop :=
  t.halted = true ∧ ∃ k ≤ n, Host.Core.run Sys2Proof.core k s = .next t ∧ NotHaltedBefore k s

theorem notHaltedBefore_zero (s : State) : NotHaltedBefore 0 s :=
  fun _ hk => absurd hk (Nat.not_lt_zero _)

theorem firstHalted_self {s : State} (h : s.halted = true) (n : Nat) : FirstHalted n s s :=
  ⟨h, 0, Nat.zero_le n, run_zero s, notHaltedBefore_zero s⟩

section FirstStep

variable {s t : State} (hs : s.halted = false) (hstep : step s = .next t) {n : Nat}
include hs hstep

theorem NotHaltedBefore.of_step (ht : NotHaltedBefore n t) : NotHaltedBefore (n + 1) s := by
  intro k hk u hu
  cases k with
  | zero => exact Host.Outcome.next.inj hu ▸ hs
  | succ k =>
    rw [run_succ (M := Sys2Proof.core) hstep] at hu
    exact ht k (Nat.lt_of_succ_lt_succ hk) u hu

theorem FirstHalted.of_step {u : State} (h : FirstHalted n t u) : FirstHalted (n + 1) s u := by
  obtain ⟨hu, k, hk, hrun, hbefore⟩ := h
  exact ⟨hu, k + 1, Nat.succ_le_succ hk, (run_succ (M := Sys2Proof.core) hstep k).trans hrun, hbefore.of_step hs hstep⟩

end FirstStep

/-- Within the budget, either the end state is the first halted state or nothing is halted. -/
theorem endState_spec (n : Nat) (s : State) :
    (∃ t, endState n s = some t ∧ FirstHalted n s t) ∨ (endState n s = none ∧ NotHaltedBefore (n + 1) s) := by
  induction n generalizing s with
  | zero =>
    obtain ⟨t, hstep⟩ := stepWith_completes cycleTable s
    cases hs : s.halted with
    | true => exact .inl ⟨s, endState_of_halted hs 0, firstHalted_self hs 0⟩
    | false => exact .inr ⟨endState_zero_of_not_halted hs, (notHaltedBefore_zero t).of_step hs hstep⟩
  | succ n ih =>
    obtain ⟨t, hstep⟩ := stepWith_completes cycleTable s
    cases hs : s.halted with
    | true => exact .inl ⟨s, endState_of_halted hs (n + 1), firstHalted_self hs (n + 1)⟩
    | false =>
      rw [endState_succ_of_not_halted hs hstep]
      obtain ⟨u, hu, hfirst⟩ | ⟨hnone, hbefore⟩ := ih t
      · exact .inl ⟨u, hu, hfirst.of_step hs hstep⟩
      · exact .inr ⟨hnone, hbefore.of_step hs hstep⟩

/-- Settles O57: HLT leads back to itself, by induction on the number of steps; the end state is the run's first halted state, by
induction on the budget. -/
theorem haltedLastsUntilTheHostIntervenes : Obligations.HaltedLastsUntilTheHostIntervenes := by
  refine ⟨fun n s => run_of_halted n, fun n s t h => ?found, fun n s h k hk => ?none⟩
  case found =>
    obtain ⟨u, hu, hfirst⟩ | ⟨hnone, -⟩ := endState_spec n s
    · exact Option.some.inj (hu.symm.trans h) ▸ hfirst
    · simp [hnone] at h
  case none =>
    obtain ⟨u, hu, -⟩ | ⟨-, hbefore⟩ := endState_spec n s
    · simp [hu] at h
    · exact hbefore k (Nat.lt_succ_of_le hk)

end Sys2Proof.Machine
end
